-- ==== Sys2Proof/Word.lean ====
section
/-! DEFINITION. The two word types of the block (00_scope.md rules R8, R11): every data value is a `u8`, every
address and the PC a `u16`. -/

namespace Sys2Proof

/-- A `u8`: a register A, X, Y, SP, a memory cell, an opcode or operand byte, a character unit (R8, R18). -/
abbrev Byte := BitVec 8

/-- A `u16`: an address or the PC (R8). -/
abbrev Addr := BitVec 16

end Sys2Proof
end

