-- ==== Sys2Proof/Syntax.lean ====
section
/-! DEFINITION. The instructions as data: the 56 mnemonics and 13 addressing modes of 30_encoding.md rules R91, R97,
the operand forms of 40_execution_and_addressing.md rules R125 to R137, one constructor of `Instr` per row of
opcode_table.json, and the error kinds of the assembler (48_assembler.md rule R270). -/

namespace Sys2Proof

/-- The 56 mnemonics of rule R97, in its order. -/
inductive Mnemonic
  | lda | ldx | ldy | sta | stx | sty | tax | tay | tsx | txa | txs | tya | pha | php | pla | plp | adc | sbc | and
  | ora | eor | bit | cmp | cpx | cpy | inc | inx | iny | dec | dex | dey | asl | lsr | rol | ror | jmp | jsr | rts
  | rti | bcc | bcs | beq | bmi | bne | bpl | bvc | bvs | clc | cld | cli | clv | sec | sed | sei | nop | brk
  deriving DecidableEq, Repr

/-- The thirteen addressing modes of rule R91. -/
inductive Mode
  | implied | accumulator | immediate | zeroPage | zeroPageX | zeroPageY | absolute | absoluteX | absoluteY
  | indirect | indirectX | indirectY | relative
  deriving DecidableEq, Repr

/-- A mode that yields the effective address of a byte (rules R128 to R136, Indirect apart), with its operand field
as rule R92 reads it: one zero-page byte, or a 16-bit address (low byte first in memory). -/
inductive MemOperand
  | zeroPage (zp : Byte)
  | zeroPageX (zp : Byte)
  | zeroPageY (zp : Byte)
  | absolute (addr : Addr)
  | absoluteX (addr : Addr)
  | absoluteY (addr : Addr)
  | indirectX (zp : Byte)
  | indirectY (zp : Byte)
  deriving DecidableEq, Repr

/-- The operand field of any instruction: its addressing mode with the operand bytes read as rule R92 says. -/
inductive Operand
  | implied
  | accumulator
  | immediate (v : Byte)
  | memory (m : MemOperand)
  | indirect (ptr : Addr)
  | relative (disp : Byte)
  deriving DecidableEq, Repr

/-- What a read instruction takes its data byte from (rules R123, R139): an immediate value or a memory byte. -/
inductive Source
  | immediate (v : Byte)
  | memory (m : MemOperand)
  deriving DecidableEq, Repr

/-- What a shift or RMW instruction changes (rule R142): register A or a memory byte. -/
inductive Target
  | accumulator
  | memory (m : MemOperand)
  deriving DecidableEq, Repr

def MemOperand.mode : MemOperand → Mode
  | .zeroPage _ => .zeroPage
  | .zeroPageX _ => .zeroPageX
  | .zeroPageY _ => .zeroPageY
  | .absolute _ => .absolute
  | .absoluteX _ => .absoluteX
  | .absoluteY _ => .absoluteY
  | .indirectX _ => .indirectX
  | .indirectY _ => .indirectY

def Operand.mode : Operand → Mode
  | .implied => .implied
  | .accumulator => .accumulator
  | .immediate _ => .immediate
  | .memory m => m.mode
  | .indirect _ => .indirect
  | .relative _ => .relative

def Source.operand : Source → Operand
  | .immediate v => .immediate v
  | .memory m => .memory m

def Target.operand : Target → Operand
  | .accumulator => .accumulator
  | .memory m => .memory m

/-- Rule R94: the operand byte count of a mode. -/
def Mode.operandCount : Mode → Nat
  | .implied | .accumulator => 0
  | .immediate | .zeroPage | .zeroPageX | .zeroPageY | .relative | .indirectX | .indirectY => 1
  | .absolute | .absoluteX | .absoluteY | .indirect => 2

/-- One constructor per row of opcode_table.json: the mnemonic, then the mode where the mnemonic has several. -/
inductive Instr
  -- LDA, load accumulator (R160)
  | ldaImm (v : Byte) | ldaZp (zp : Byte) | ldaZpX (zp : Byte) | ldaAbs (addr : Addr) | ldaAbsX (addr : Addr)
  | ldaAbsY (addr : Addr) | ldaIndX (zp : Byte) | ldaIndY (zp : Byte)
  -- LDX, load X (R161)
  | ldxImm (v : Byte) | ldxZp (zp : Byte) | ldxZpY (zp : Byte) | ldxAbs (addr : Addr) | ldxAbsY (addr : Addr)
  -- LDY, load Y (R162)
  | ldyImm (v : Byte) | ldyZp (zp : Byte) | ldyZpX (zp : Byte) | ldyAbs (addr : Addr) | ldyAbsX (addr : Addr)
  -- STA, store accumulator (R163)
  | staZp (zp : Byte) | staZpX (zp : Byte) | staAbs (addr : Addr) | staAbsX (addr : Addr) | staAbsY (addr : Addr)
  | staIndX (zp : Byte) | staIndY (zp : Byte)
  -- STX, store X (R164)
  | stxZp (zp : Byte) | stxZpY (zp : Byte) | stxAbs (addr : Addr)
  -- STY, store Y (R165)
  | styZp (zp : Byte) | styZpX (zp : Byte) | styAbs (addr : Addr)
  -- TAX, transfer A to X (R170)
  | tax
  -- TAY, transfer A to Y (R171)
  | tay
  -- TSX, transfer SP to X (R172)
  | tsx
  -- TXA, transfer X to A (R173)
  | txa
  -- TXS, transfer X to SP (R174)
  | txs
  -- TYA, transfer Y to A (R175)
  | tya
  -- PHA, push accumulator (R176)
  | pha
  -- PHP, push processor status (R177)
  | php
  -- PLA, pull accumulator (R178)
  | pla
  -- PLP, pull processor status (R179)
  | plp
  -- ADC, add with carry (R194)
  | adcImm (v : Byte) | adcZp (zp : Byte) | adcZpX (zp : Byte) | adcAbs (addr : Addr) | adcAbsX (addr : Addr)
  | adcAbsY (addr : Addr) | adcIndX (zp : Byte) | adcIndY (zp : Byte)
  -- SBC, subtract with borrow (R195)
  | sbcImm (v : Byte) | sbcZp (zp : Byte) | sbcZpX (zp : Byte) | sbcAbs (addr : Addr) | sbcAbsX (addr : Addr)
  | sbcAbsY (addr : Addr) | sbcIndX (zp : Byte) | sbcIndY (zp : Byte)
  -- AND, and with accumulator (R196)
  | andImm (v : Byte) | andZp (zp : Byte) | andZpX (zp : Byte) | andAbs (addr : Addr) | andAbsX (addr : Addr)
  | andAbsY (addr : Addr) | andIndX (zp : Byte) | andIndY (zp : Byte)
  -- ORA, or with accumulator (R197)
  | oraImm (v : Byte) | oraZp (zp : Byte) | oraZpX (zp : Byte) | oraAbs (addr : Addr) | oraAbsX (addr : Addr)
  | oraAbsY (addr : Addr) | oraIndX (zp : Byte) | oraIndY (zp : Byte)
  -- EOR, exclusive or with accumulator (R198)
  | eorImm (v : Byte) | eorZp (zp : Byte) | eorZpX (zp : Byte) | eorAbs (addr : Addr) | eorAbsX (addr : Addr)
  | eorAbsY (addr : Addr) | eorIndX (zp : Byte) | eorIndY (zp : Byte)
  -- BIT, test bits (R199)
  | bitZp (zp : Byte) | bitAbs (addr : Addr)
  -- CMP, compare with accumulator (R200)
  | cmpImm (v : Byte) | cmpZp (zp : Byte) | cmpZpX (zp : Byte) | cmpAbs (addr : Addr) | cmpAbsX (addr : Addr)
  | cmpAbsY (addr : Addr) | cmpIndX (zp : Byte) | cmpIndY (zp : Byte)
  -- CPX, compare with X (R201)
  | cpxImm (v : Byte) | cpxZp (zp : Byte) | cpxAbs (addr : Addr)
  -- CPY, compare with Y (R202)
  | cpyImm (v : Byte) | cpyZp (zp : Byte) | cpyAbs (addr : Addr)
  -- INC, increment memory (R210)
  | incZp (zp : Byte) | incZpX (zp : Byte) | incAbs (addr : Addr) | incAbsX (addr : Addr)
  -- INX, increment X (R211)
  | inx
  -- INY, increment Y (R212)
  | iny
  -- DEC, decrement memory (R213)
  | decZp (zp : Byte) | decZpX (zp : Byte) | decAbs (addr : Addr) | decAbsX (addr : Addr)
  -- DEX, decrement X (R214)
  | dex
  -- DEY, decrement Y (R215)
  | dey
  -- ASL, arithmetic shift left (R216)
  | aslAcc | aslZp (zp : Byte) | aslZpX (zp : Byte) | aslAbs (addr : Addr) | aslAbsX (addr : Addr)
  -- LSR, logical shift right (R217)
  | lsrAcc | lsrZp (zp : Byte) | lsrZpX (zp : Byte) | lsrAbs (addr : Addr) | lsrAbsX (addr : Addr)
  -- ROL, rotate left through carry (R218)
  | rolAcc | rolZp (zp : Byte) | rolZpX (zp : Byte) | rolAbs (addr : Addr) | rolAbsX (addr : Addr)
  -- ROR, rotate right through carry (R219)
  | rorAcc | rorZp (zp : Byte) | rorZpX (zp : Byte) | rorAbs (addr : Addr) | rorAbsX (addr : Addr)
  -- JMP, jump (R230)
  | jmpAbs (addr : Addr) | jmpInd (ptr : Addr)
  -- JSR, jump to subroutine (R231)
  | jsr (addr : Addr)
  -- RTS, return from subroutine (R232)
  | rts
  -- RTI, return from interrupt (R233)
  | rti
  -- BCC, branch if carry clear (R235)
  | bcc (disp : Byte)
  -- BCS, branch if carry set (R236)
  | bcs (disp : Byte)
  -- BEQ, branch if equal (R237)
  | beq (disp : Byte)
  -- BMI, branch if minus (R238)
  | bmi (disp : Byte)
  -- BNE, branch if not equal (R239)
  | bne (disp : Byte)
  -- BPL, branch if plus (R240)
  | bpl (disp : Byte)
  -- BVC, branch if overflow clear (R241)
  | bvc (disp : Byte)
  -- BVS, branch if overflow set (R242)
  | bvs (disp : Byte)
  -- CLC, clear carry (R250)
  | clc
  -- CLD, clear decimal (R251)
  | cld
  -- CLI, clear interrupt disable (R252)
  | cli
  -- CLV, clear overflow (R253)
  | clv
  -- SEC, set carry (R254)
  | sec
  -- SED, set decimal (R255)
  | sed
  -- SEI, set interrupt disable (R256)
  | sei
  -- NOP, no operation (R257)
  | nop
  -- BRK, halt (R258)
  | brk
  deriving DecidableEq, Repr

/-- The mnemonic of an instruction. -/
def Instr.mnemonic : Instr → Mnemonic
  | .ldaImm _ | .ldaZp _ | .ldaZpX _ | .ldaAbs _ | .ldaAbsX _ | .ldaAbsY _ | .ldaIndX _ | .ldaIndY _ => .lda
  | .ldxImm _ | .ldxZp _ | .ldxZpY _ | .ldxAbs _ | .ldxAbsY _ => .ldx
  | .ldyImm _ | .ldyZp _ | .ldyZpX _ | .ldyAbs _ | .ldyAbsX _ => .ldy
  | .staZp _ | .staZpX _ | .staAbs _ | .staAbsX _ | .staAbsY _ | .staIndX _ | .staIndY _ => .sta
  | .stxZp _ | .stxZpY _ | .stxAbs _ => .stx
  | .styZp _ | .styZpX _ | .styAbs _ => .sty
  | .tax => .tax
  | .tay => .tay
  | .tsx => .tsx
  | .txa => .txa
  | .txs => .txs
  | .tya => .tya
  | .pha => .pha
  | .php => .php
  | .pla => .pla
  | .plp => .plp
  | .adcImm _ | .adcZp _ | .adcZpX _ | .adcAbs _ | .adcAbsX _ | .adcAbsY _ | .adcIndX _ | .adcIndY _ => .adc
  | .sbcImm _ | .sbcZp _ | .sbcZpX _ | .sbcAbs _ | .sbcAbsX _ | .sbcAbsY _ | .sbcIndX _ | .sbcIndY _ => .sbc
  | .andImm _ | .andZp _ | .andZpX _ | .andAbs _ | .andAbsX _ | .andAbsY _ | .andIndX _ | .andIndY _ => .and
  | .oraImm _ | .oraZp _ | .oraZpX _ | .oraAbs _ | .oraAbsX _ | .oraAbsY _ | .oraIndX _ | .oraIndY _ => .ora
  | .eorImm _ | .eorZp _ | .eorZpX _ | .eorAbs _ | .eorAbsX _ | .eorAbsY _ | .eorIndX _ | .eorIndY _ => .eor
  | .bitZp _ | .bitAbs _ => .bit
  | .cmpImm _ | .cmpZp _ | .cmpZpX _ | .cmpAbs _ | .cmpAbsX _ | .cmpAbsY _ | .cmpIndX _ | .cmpIndY _ => .cmp
  | .cpxImm _ | .cpxZp _ | .cpxAbs _ => .cpx
  | .cpyImm _ | .cpyZp _ | .cpyAbs _ => .cpy
  | .incZp _ | .incZpX _ | .incAbs _ | .incAbsX _ => .inc
  | .inx => .inx
  | .iny => .iny
  | .decZp _ | .decZpX _ | .decAbs _ | .decAbsX _ => .dec
  | .dex => .dex
  | .dey => .dey
  | .aslAcc | .aslZp _ | .aslZpX _ | .aslAbs _ | .aslAbsX _ => .asl
  | .lsrAcc | .lsrZp _ | .lsrZpX _ | .lsrAbs _ | .lsrAbsX _ => .lsr
  | .rolAcc | .rolZp _ | .rolZpX _ | .rolAbs _ | .rolAbsX _ => .rol
  | .rorAcc | .rorZp _ | .rorZpX _ | .rorAbs _ | .rorAbsX _ => .ror
  | .jmpAbs _ | .jmpInd _ => .jmp
  | .jsr _ => .jsr
  | .rts => .rts
  | .rti => .rti
  | .bcc _ => .bcc
  | .bcs _ => .bcs
  | .beq _ => .beq
  | .bmi _ => .bmi
  | .bne _ => .bne
  | .bpl _ => .bpl
  | .bvc _ => .bvc
  | .bvs _ => .bvs
  | .clc => .clc
  | .cld => .cld
  | .cli => .cli
  | .clv => .clv
  | .sec => .sec
  | .sed => .sed
  | .sei => .sei
  | .nop => .nop
  | .brk => .brk

/-- The operand field of an instruction. -/
def Instr.operand : Instr → Operand
  | .ldaImm v => .immediate v
  | .ldaZp zp => .memory (.zeroPage zp)
  | .ldaZpX zp => .memory (.zeroPageX zp)
  | .ldaAbs addr => .memory (.absolute addr)
  | .ldaAbsX addr => .memory (.absoluteX addr)
  | .ldaAbsY addr => .memory (.absoluteY addr)
  | .ldaIndX zp => .memory (.indirectX zp)
  | .ldaIndY zp => .memory (.indirectY zp)
  | .ldxImm v => .immediate v
  | .ldxZp zp => .memory (.zeroPage zp)
  | .ldxZpY zp => .memory (.zeroPageY zp)
  | .ldxAbs addr => .memory (.absolute addr)
  | .ldxAbsY addr => .memory (.absoluteY addr)
  | .ldyImm v => .immediate v
  | .ldyZp zp => .memory (.zeroPage zp)
  | .ldyZpX zp => .memory (.zeroPageX zp)
  | .ldyAbs addr => .memory (.absolute addr)
  | .ldyAbsX addr => .memory (.absoluteX addr)
  | .staZp zp => .memory (.zeroPage zp)
  | .staZpX zp => .memory (.zeroPageX zp)
  | .staAbs addr => .memory (.absolute addr)
  | .staAbsX addr => .memory (.absoluteX addr)
  | .staAbsY addr => .memory (.absoluteY addr)
  | .staIndX zp => .memory (.indirectX zp)
  | .staIndY zp => .memory (.indirectY zp)
  | .stxZp zp => .memory (.zeroPage zp)
  | .stxZpY zp => .memory (.zeroPageY zp)
  | .stxAbs addr => .memory (.absolute addr)
  | .styZp zp => .memory (.zeroPage zp)
  | .styZpX zp => .memory (.zeroPageX zp)
  | .styAbs addr => .memory (.absolute addr)
  | .adcImm v => .immediate v
  | .adcZp zp => .memory (.zeroPage zp)
  | .adcZpX zp => .memory (.zeroPageX zp)
  | .adcAbs addr => .memory (.absolute addr)
  | .adcAbsX addr => .memory (.absoluteX addr)
  | .adcAbsY addr => .memory (.absoluteY addr)
  | .adcIndX zp => .memory (.indirectX zp)
  | .adcIndY zp => .memory (.indirectY zp)
  | .sbcImm v => .immediate v
  | .sbcZp zp => .memory (.zeroPage zp)
  | .sbcZpX zp => .memory (.zeroPageX zp)
  | .sbcAbs addr => .memory (.absolute addr)
  | .sbcAbsX addr => .memory (.absoluteX addr)
  | .sbcAbsY addr => .memory (.absoluteY addr)
  | .sbcIndX zp => .memory (.indirectX zp)
  | .sbcIndY zp => .memory (.indirectY zp)
  | .andImm v => .immediate v
  | .andZp zp => .memory (.zeroPage zp)
  | .andZpX zp => .memory (.zeroPageX zp)
  | .andAbs addr => .memory (.absolute addr)
  | .andAbsX addr => .memory (.absoluteX addr)
  | .andAbsY addr => .memory (.absoluteY addr)
  | .andIndX zp => .memory (.indirectX zp)
  | .andIndY zp => .memory (.indirectY zp)
  | .oraImm v => .immediate v
  | .oraZp zp => .memory (.zeroPage zp)
  | .oraZpX zp => .memory (.zeroPageX zp)
  | .oraAbs addr => .memory (.absolute addr)
  | .oraAbsX addr => .memory (.absoluteX addr)
  | .oraAbsY addr => .memory (.absoluteY addr)
  | .oraIndX zp => .memory (.indirectX zp)
  | .oraIndY zp => .memory (.indirectY zp)
  | .eorImm v => .immediate v
  | .eorZp zp => .memory (.zeroPage zp)
  | .eorZpX zp => .memory (.zeroPageX zp)
  | .eorAbs addr => .memory (.absolute addr)
  | .eorAbsX addr => .memory (.absoluteX addr)
  | .eorAbsY addr => .memory (.absoluteY addr)
  | .eorIndX zp => .memory (.indirectX zp)
  | .eorIndY zp => .memory (.indirectY zp)
  | .bitZp zp => .memory (.zeroPage zp)
  | .bitAbs addr => .memory (.absolute addr)
  | .cmpImm v => .immediate v
  | .cmpZp zp => .memory (.zeroPage zp)
  | .cmpZpX zp => .memory (.zeroPageX zp)
  | .cmpAbs addr => .memory (.absolute addr)
  | .cmpAbsX addr => .memory (.absoluteX addr)
  | .cmpAbsY addr => .memory (.absoluteY addr)
  | .cmpIndX zp => .memory (.indirectX zp)
  | .cmpIndY zp => .memory (.indirectY zp)
  | .cpxImm v => .immediate v
  | .cpxZp zp => .memory (.zeroPage zp)
  | .cpxAbs addr => .memory (.absolute addr)
  | .cpyImm v => .immediate v
  | .cpyZp zp => .memory (.zeroPage zp)
  | .cpyAbs addr => .memory (.absolute addr)
  | .incZp zp => .memory (.zeroPage zp)
  | .incZpX zp => .memory (.zeroPageX zp)
  | .incAbs addr => .memory (.absolute addr)
  | .incAbsX addr => .memory (.absoluteX addr)
  | .decZp zp => .memory (.zeroPage zp)
  | .decZpX zp => .memory (.zeroPageX zp)
  | .decAbs addr => .memory (.absolute addr)
  | .decAbsX addr => .memory (.absoluteX addr)
  | .aslZp zp => .memory (.zeroPage zp)
  | .aslZpX zp => .memory (.zeroPageX zp)
  | .aslAbs addr => .memory (.absolute addr)
  | .aslAbsX addr => .memory (.absoluteX addr)
  | .lsrZp zp => .memory (.zeroPage zp)
  | .lsrZpX zp => .memory (.zeroPageX zp)
  | .lsrAbs addr => .memory (.absolute addr)
  | .lsrAbsX addr => .memory (.absoluteX addr)
  | .rolZp zp => .memory (.zeroPage zp)
  | .rolZpX zp => .memory (.zeroPageX zp)
  | .rolAbs addr => .memory (.absolute addr)
  | .rolAbsX addr => .memory (.absoluteX addr)
  | .rorZp zp => .memory (.zeroPage zp)
  | .rorZpX zp => .memory (.zeroPageX zp)
  | .rorAbs addr => .memory (.absolute addr)
  | .rorAbsX addr => .memory (.absoluteX addr)
  | .jmpAbs addr => .memory (.absolute addr)
  | .jmpInd ptr => .indirect ptr
  | .jsr addr => .memory (.absolute addr)
  | .bcc disp => .relative disp
  | .bcs disp => .relative disp
  | .beq disp => .relative disp
  | .bmi disp => .relative disp
  | .bne disp => .relative disp
  | .bpl disp => .relative disp
  | .bvc disp => .relative disp
  | .bvs disp => .relative disp
  | .aslAcc | .lsrAcc | .rolAcc | .rorAcc => .accumulator
  | .tax | .tay | .tsx | .txa | .txs | .tya | .pha | .php | .pla | .plp | .inx | .iny | .dex | .dey | .rts | .rti
  | .clc | .cld | .cli | .clv | .sec | .sed | .sei | .nop | .brk => .implied

/-- The addressing mode of an instruction. -/
def Instr.mode (i : Instr) : Mode := i.operand.mode

/-- The error kinds of the assembler (48_assembler.md rule R270). -/
inductive AsmErrorKind
  | unknownMnemonicError
  | invalidOperandSyntaxError
  | duplicateLabelError
  | unknownLabelError
  | branchOutOfRangeError
  | addressOverflowError
  deriving DecidableEq, Repr

end Sys2Proof
end

