-- ==== Sys2Proof/WellFormed.lean ====
section
/-! DEFINITION. Which addressing modes each mnemonic has (30_encoding.md rule R97), and the well-formedness of an
instruction. Operand bytes are never checked (rule R99), so the one thing to check of an instruction is that its
mode is one of its mnemonic's; rule R138 says that the decoder cannot produce another pair. -/

namespace Sys2Proof

/-- Rule R97: the modes of a mnemonic. -/
def Mnemonic.modes : Mnemonic → List Mode
  | .lda | .adc | .sbc | .and | .ora | .eor | .cmp =>
    [.immediate, .zeroPage, .zeroPageX, .absolute, .absoluteX, .absoluteY, .indirectX, .indirectY]
  | .ldx =>
    [.immediate, .zeroPage, .zeroPageY, .absolute, .absoluteY]
  | .ldy =>
    [.immediate, .zeroPage, .zeroPageX, .absolute, .absoluteX]
  | .sta =>
    [.zeroPage, .zeroPageX, .absolute, .absoluteX, .absoluteY, .indirectX, .indirectY]
  | .stx =>
    [.zeroPage, .zeroPageY, .absolute]
  | .sty =>
    [.zeroPage, .zeroPageX, .absolute]
  | .tax | .tay | .tsx | .txa | .txs | .tya | .pha | .php | .pla | .plp | .inx | .iny | .dex | .dey | .rts | .rti
  | .clc | .cld | .cli | .clv | .sec | .sed | .sei | .nop | .brk =>
    [.implied]
  | .bit =>
    [.zeroPage, .absolute]
  | .cpx | .cpy =>
    [.immediate, .zeroPage, .absolute]
  | .inc | .dec =>
    [.zeroPage, .zeroPageX, .absolute, .absoluteX]
  | .asl | .lsr | .rol | .ror =>
    [.accumulator, .zeroPage, .zeroPageX, .absolute, .absoluteX]
  | .jmp =>
    [.absolute, .indirect]
  | .jsr =>
    [.absolute]
  | .bcc | .bcs | .beq | .bmi | .bne | .bpl | .bvc | .bvs =>
    [.relative]

/-- The check on a pair of mnemonic and mode: the pair is a cell of rule R96's map. -/
def Mnemonic.hasMode (mn : Mnemonic) (md : Mode) : Bool := mn.modes.contains md

/-- An instruction is well formed when its mode is one its mnemonic has (rules R97, R138). -/
def Instr.wf (i : Instr) : Bool := i.mnemonic.hasMode i.mode

end Sys2Proof
end

