-- ==== Sys2Proof/Decode.lean ====
section
/-! DEFINITION. The Instruction Descriptor table (30_encoding.md rules R93, R94, R96, R361), the decoder, total on
every list of bytes and rejecting by name, and the encoder. -/

namespace Sys2Proof

/-- `hi ++ lo` of rule R12: the 16-bit value with high byte `hi` and low byte `lo`. -/
def word (hi lo : Byte) : Addr := hi ++ lo

/-- `lo(v)` of rule R12. -/
def loByte (v : Addr) : Byte := v.extractLsb' 0 8

/-- `hi(v)` of rule R12. -/
def hiByte (v : Addr) : Byte := v.extractLsb' 8 8

/-- The note beside a base cycle count in rule R361. -/
inductive CycleExtra
  | none
  | pageCross
  | branch
  deriving DecidableEq, Repr

/-- An Instruction Descriptor (rule R93) with its opcode byte. No rule reads the cycle fields (rule R101). -/
structure Descriptor where
  opcode : Byte
  mnemonic : Mnemonic
  mode : Mode
  baseCycles : Nat
  cycleExtra : CycleExtra
  deriving DecidableEq, Repr

/-- "operand byte count" of rule R93, a function of the mode (rule R94). -/
def Descriptor.operandCount (d : Descriptor) : Nat := d.mode.operandCount

/-- Rows $00 to $1F of rule R96, with the cycle counts of rule R361. -/
def opcodeRows00 : List Descriptor :=
  [⟨0x00, .brk, .implied, 7, .none⟩,
   ⟨0x01, .ora, .indirectX, 6, .none⟩,
   ⟨0x05, .ora, .zeroPage, 3, .none⟩,
   ⟨0x06, .asl, .zeroPage, 5, .none⟩,
   ⟨0x08, .php, .implied, 3, .none⟩,
   ⟨0x09, .ora, .immediate, 2, .none⟩,
   ⟨0x0A, .asl, .accumulator, 2, .none⟩,
   ⟨0x0D, .ora, .absolute, 4, .none⟩,
   ⟨0x0E, .asl, .absolute, 6, .none⟩,
   ⟨0x10, .bpl, .relative, 2, .branch⟩,
   ⟨0x11, .ora, .indirectY, 5, .pageCross⟩,
   ⟨0x15, .ora, .zeroPageX, 4, .none⟩,
   ⟨0x16, .asl, .zeroPageX, 6, .none⟩,
   ⟨0x18, .clc, .implied, 2, .none⟩,
   ⟨0x19, .ora, .absoluteY, 4, .pageCross⟩,
   ⟨0x1D, .ora, .absoluteX, 4, .pageCross⟩,
   ⟨0x1E, .asl, .absoluteX, 7, .none⟩]

/-- Rows $20 to $3F of rule R96, with the cycle counts of rule R361. -/
def opcodeRows20 : List Descriptor :=
  [⟨0x20, .jsr, .absolute, 6, .none⟩,
   ⟨0x21, .and, .indirectX, 6, .none⟩,
   ⟨0x24, .bit, .zeroPage, 3, .none⟩,
   ⟨0x25, .and, .zeroPage, 3, .none⟩,
   ⟨0x26, .rol, .zeroPage, 5, .none⟩,
   ⟨0x28, .plp, .implied, 4, .none⟩,
   ⟨0x29, .and, .immediate, 2, .none⟩,
   ⟨0x2A, .rol, .accumulator, 2, .none⟩,
   ⟨0x2C, .bit, .absolute, 4, .none⟩,
   ⟨0x2D, .and, .absolute, 4, .none⟩,
   ⟨0x2E, .rol, .absolute, 6, .none⟩,
   ⟨0x30, .bmi, .relative, 2, .branch⟩,
   ⟨0x31, .and, .indirectY, 5, .pageCross⟩,
   ⟨0x35, .and, .zeroPageX, 4, .none⟩,
   ⟨0x36, .rol, .zeroPageX, 6, .none⟩,
   ⟨0x38, .sec, .implied, 2, .none⟩,
   ⟨0x39, .and, .absoluteY, 4, .pageCross⟩,
   ⟨0x3D, .and, .absoluteX, 4, .pageCross⟩,
   ⟨0x3E, .rol, .absoluteX, 7, .none⟩]

/-- Rows $40 to $5F of rule R96, with the cycle counts of rule R361. -/
def opcodeRows40 : List Descriptor :=
  [⟨0x40, .rti, .implied, 6, .none⟩,
   ⟨0x41, .eor, .indirectX, 6, .none⟩,
   ⟨0x45, .eor, .zeroPage, 3, .none⟩,
   ⟨0x46, .lsr, .zeroPage, 5, .none⟩,
   ⟨0x48, .pha, .implied, 3, .none⟩,
   ⟨0x49, .eor, .immediate, 2, .none⟩,
   ⟨0x4A, .lsr, .accumulator, 2, .none⟩,
   ⟨0x4C, .jmp, .absolute, 3, .none⟩,
   ⟨0x4D, .eor, .absolute, 4, .none⟩,
   ⟨0x4E, .lsr, .absolute, 6, .none⟩,
   ⟨0x50, .bvc, .relative, 2, .branch⟩,
   ⟨0x51, .eor, .indirectY, 5, .pageCross⟩,
   ⟨0x55, .eor, .zeroPageX, 4, .none⟩,
   ⟨0x56, .lsr, .zeroPageX, 6, .none⟩,
   ⟨0x58, .cli, .implied, 2, .none⟩,
   ⟨0x59, .eor, .absoluteY, 4, .pageCross⟩,
   ⟨0x5D, .eor, .absoluteX, 4, .pageCross⟩,
   ⟨0x5E, .lsr, .absoluteX, 7, .none⟩]

/-- Rows $60 to $7F of rule R96, with the cycle counts of rule R361. -/
def opcodeRows60 : List Descriptor :=
  [⟨0x60, .rts, .implied, 6, .none⟩,
   ⟨0x61, .adc, .indirectX, 6, .none⟩,
   ⟨0x65, .adc, .zeroPage, 3, .none⟩,
   ⟨0x66, .ror, .zeroPage, 5, .none⟩,
   ⟨0x68, .pla, .implied, 4, .none⟩,
   ⟨0x69, .adc, .immediate, 2, .none⟩,
   ⟨0x6A, .ror, .accumulator, 2, .none⟩,
   ⟨0x6C, .jmp, .indirect, 5, .none⟩,
   ⟨0x6D, .adc, .absolute, 4, .none⟩,
   ⟨0x6E, .ror, .absolute, 6, .none⟩,
   ⟨0x70, .bvs, .relative, 2, .branch⟩,
   ⟨0x71, .adc, .indirectY, 5, .pageCross⟩,
   ⟨0x75, .adc, .zeroPageX, 4, .none⟩,
   ⟨0x76, .ror, .zeroPageX, 6, .none⟩,
   ⟨0x78, .sei, .implied, 2, .none⟩,
   ⟨0x79, .adc, .absoluteY, 4, .pageCross⟩,
   ⟨0x7D, .adc, .absoluteX, 4, .pageCross⟩,
   ⟨0x7E, .ror, .absoluteX, 7, .none⟩]

/-- Rows $80 to $9F of rule R96, with the cycle counts of rule R361. -/
def opcodeRows80 : List Descriptor :=
  [⟨0x81, .sta, .indirectX, 6, .none⟩,
   ⟨0x84, .sty, .zeroPage, 3, .none⟩,
   ⟨0x85, .sta, .zeroPage, 3, .none⟩,
   ⟨0x86, .stx, .zeroPage, 3, .none⟩,
   ⟨0x88, .dey, .implied, 2, .none⟩,
   ⟨0x8A, .txa, .implied, 2, .none⟩,
   ⟨0x8C, .sty, .absolute, 4, .none⟩,
   ⟨0x8D, .sta, .absolute, 4, .none⟩,
   ⟨0x8E, .stx, .absolute, 4, .none⟩,
   ⟨0x90, .bcc, .relative, 2, .branch⟩,
   ⟨0x91, .sta, .indirectY, 6, .none⟩,
   ⟨0x94, .sty, .zeroPageX, 4, .none⟩,
   ⟨0x95, .sta, .zeroPageX, 4, .none⟩,
   ⟨0x96, .stx, .zeroPageY, 4, .none⟩,
   ⟨0x98, .tya, .implied, 2, .none⟩,
   ⟨0x99, .sta, .absoluteY, 5, .none⟩,
   ⟨0x9A, .txs, .implied, 2, .none⟩,
   ⟨0x9D, .sta, .absoluteX, 5, .none⟩]

/-- Rows $A0 to $BF of rule R96, with the cycle counts of rule R361. -/
def opcodeRowsA0 : List Descriptor :=
  [⟨0xA0, .ldy, .immediate, 2, .none⟩,
   ⟨0xA1, .lda, .indirectX, 6, .none⟩,
   ⟨0xA2, .ldx, .immediate, 2, .none⟩,
   ⟨0xA4, .ldy, .zeroPage, 3, .none⟩,
   ⟨0xA5, .lda, .zeroPage, 3, .none⟩,
   ⟨0xA6, .ldx, .zeroPage, 3, .none⟩,
   ⟨0xA8, .tay, .implied, 2, .none⟩,
   ⟨0xA9, .lda, .immediate, 2, .none⟩,
   ⟨0xAA, .tax, .implied, 2, .none⟩,
   ⟨0xAC, .ldy, .absolute, 4, .none⟩,
   ⟨0xAD, .lda, .absolute, 4, .none⟩,
   ⟨0xAE, .ldx, .absolute, 4, .none⟩,
   ⟨0xB0, .bcs, .relative, 2, .branch⟩,
   ⟨0xB1, .lda, .indirectY, 5, .pageCross⟩,
   ⟨0xB4, .ldy, .zeroPageX, 4, .none⟩,
   ⟨0xB5, .lda, .zeroPageX, 4, .none⟩,
   ⟨0xB6, .ldx, .zeroPageY, 4, .none⟩,
   ⟨0xB8, .clv, .implied, 2, .none⟩,
   ⟨0xB9, .lda, .absoluteY, 4, .pageCross⟩,
   ⟨0xBA, .tsx, .implied, 2, .none⟩,
   ⟨0xBC, .ldy, .absoluteX, 4, .pageCross⟩,
   ⟨0xBD, .lda, .absoluteX, 4, .pageCross⟩,
   ⟨0xBE, .ldx, .absoluteY, 4, .pageCross⟩]

/-- Rows $C0 to $DF of rule R96, with the cycle counts of rule R361. -/
def opcodeRowsC0 : List Descriptor :=
  [⟨0xC0, .cpy, .immediate, 2, .none⟩,
   ⟨0xC1, .cmp, .indirectX, 6, .none⟩,
   ⟨0xC4, .cpy, .zeroPage, 3, .none⟩,
   ⟨0xC5, .cmp, .zeroPage, 3, .none⟩,
   ⟨0xC6, .dec, .zeroPage, 5, .none⟩,
   ⟨0xC8, .iny, .implied, 2, .none⟩,
   ⟨0xC9, .cmp, .immediate, 2, .none⟩,
   ⟨0xCA, .dex, .implied, 2, .none⟩,
   ⟨0xCC, .cpy, .absolute, 4, .none⟩,
   ⟨0xCD, .cmp, .absolute, 4, .none⟩,
   ⟨0xCE, .dec, .absolute, 6, .none⟩,
   ⟨0xD0, .bne, .relative, 2, .branch⟩,
   ⟨0xD1, .cmp, .indirectY, 5, .pageCross⟩,
   ⟨0xD5, .cmp, .zeroPageX, 4, .none⟩,
   ⟨0xD6, .dec, .zeroPageX, 6, .none⟩,
   ⟨0xD8, .cld, .implied, 2, .none⟩,
   ⟨0xD9, .cmp, .absoluteY, 4, .pageCross⟩,
   ⟨0xDD, .cmp, .absoluteX, 4, .pageCross⟩,
   ⟨0xDE, .dec, .absoluteX, 7, .none⟩]

/-- Rows $E0 to $FF of rule R96, with the cycle counts of rule R361. -/
def opcodeRowsE0 : List Descriptor :=
  [⟨0xE0, .cpx, .immediate, 2, .none⟩,
   ⟨0xE1, .sbc, .indirectX, 6, .none⟩,
   ⟨0xE4, .cpx, .zeroPage, 3, .none⟩,
   ⟨0xE5, .sbc, .zeroPage, 3, .none⟩,
   ⟨0xE6, .inc, .zeroPage, 5, .none⟩,
   ⟨0xE8, .inx, .implied, 2, .none⟩,
   ⟨0xE9, .sbc, .immediate, 2, .none⟩,
   ⟨0xEA, .nop, .implied, 2, .none⟩,
   ⟨0xEC, .cpx, .absolute, 4, .none⟩,
   ⟨0xED, .sbc, .absolute, 4, .none⟩,
   ⟨0xEE, .inc, .absolute, 6, .none⟩,
   ⟨0xF0, .beq, .relative, 2, .branch⟩,
   ⟨0xF1, .sbc, .indirectY, 5, .pageCross⟩,
   ⟨0xF5, .sbc, .zeroPageX, 4, .none⟩,
   ⟨0xF6, .inc, .zeroPageX, 6, .none⟩,
   ⟨0xF8, .sed, .implied, 2, .none⟩,
   ⟨0xF9, .sbc, .absoluteY, 4, .pageCross⟩,
   ⟨0xFD, .sbc, .absoluteX, 4, .pageCross⟩,
   ⟨0xFE, .inc, .absoluteX, 7, .none⟩]

/-- The descriptor table of rule R96: 151 defined opcodes. -/
def opcodeTable : List Descriptor :=
  opcodeRows00 ++ opcodeRows20 ++ opcodeRows40 ++ opcodeRows60 ++ opcodeRows80 ++ opcodeRowsA0 ++ opcodeRowsC0 ++ opcodeRowsE0

/-- Rule R93: the byte's Instruction Descriptor, or none (the 105 bytes of rule R98). -/
def descriptor (op : Byte) : Option Descriptor := opcodeTable.find? (fun d => d.opcode == op)

/-- Why the decoder rejects a list of bytes. The step gives it a complete instruction, so of these only
`invalidOpcode` is the hardware's (rule R98); the two others say that the list is too short (log 10). -/
inductive DecodeError
  | noBytes
  | invalidOpcode (op : Byte)
  | missingOperand (op : Byte)
  deriving DecidableEq, Repr

/-- The answer of the decoder: an instruction and the bytes after it, or a named rejection. -/
abbrev Decoded := Except DecodeError (Instr × List Byte)

/-- A one-byte instruction (rule R91: Implied, Accumulator). -/
def noOperand (i : Instr) (rest : List Byte) : Decoded := .ok (i, rest)

/-- A two-byte instruction (rules R91, R92): byte 1 is the operand. -/
def byteOperand (op : Byte) (mk : Byte → Instr) : List Byte → Decoded
  | b :: rest => .ok (mk b, rest)
  | [] => .error (.missingOperand op)

/-- A three-byte instruction (rules R91, R92, R71): byte 1 is the low byte, byte 2 the high byte. -/
def wordOperand (op : Byte) (mk : Addr → Instr) : List Byte → Decoded
  | lo :: hi :: rest => .ok (mk (word hi lo), rest)
  | _ => .error (.missingOperand op)

/-- The instruction whose opcode byte is `op`, its operand read from `rest` (rules R96, R98). -/
def decodeOpcode (op : Byte) (rest : List Byte) : Decoded :=
  match op.toNat with
  | 0x00 => noOperand .brk rest
  | 0x01 => byteOperand op .oraIndX rest
  | 0x05 => byteOperand op .oraZp rest
  | 0x06 => byteOperand op .aslZp rest
  | 0x08 => noOperand .php rest
  | 0x09 => byteOperand op .oraImm rest
  | 0x0A => noOperand .aslAcc rest
  | 0x0D => wordOperand op .oraAbs rest
  | 0x0E => wordOperand op .aslAbs rest
  | 0x10 => byteOperand op .bpl rest
  | 0x11 => byteOperand op .oraIndY rest
  | 0x15 => byteOperand op .oraZpX rest
  | 0x16 => byteOperand op .aslZpX rest
  | 0x18 => noOperand .clc rest
  | 0x19 => wordOperand op .oraAbsY rest
  | 0x1D => wordOperand op .oraAbsX rest
  | 0x1E => wordOperand op .aslAbsX rest
  | 0x20 => wordOperand op .jsr rest
  | 0x21 => byteOperand op .andIndX rest
  | 0x24 => byteOperand op .bitZp rest
  | 0x25 => byteOperand op .andZp rest
  | 0x26 => byteOperand op .rolZp rest
  | 0x28 => noOperand .plp rest
  | 0x29 => byteOperand op .andImm rest
  | 0x2A => noOperand .rolAcc rest
  | 0x2C => wordOperand op .bitAbs rest
  | 0x2D => wordOperand op .andAbs rest
  | 0x2E => wordOperand op .rolAbs rest
  | 0x30 => byteOperand op .bmi rest
  | 0x31 => byteOperand op .andIndY rest
  | 0x35 => byteOperand op .andZpX rest
  | 0x36 => byteOperand op .rolZpX rest
  | 0x38 => noOperand .sec rest
  | 0x39 => wordOperand op .andAbsY rest
  | 0x3D => wordOperand op .andAbsX rest
  | 0x3E => wordOperand op .rolAbsX rest
  | 0x40 => noOperand .rti rest
  | 0x41 => byteOperand op .eorIndX rest
  | 0x45 => byteOperand op .eorZp rest
  | 0x46 => byteOperand op .lsrZp rest
  | 0x48 => noOperand .pha rest
  | 0x49 => byteOperand op .eorImm rest
  | 0x4A => noOperand .lsrAcc rest
  | 0x4C => wordOperand op .jmpAbs rest
  | 0x4D => wordOperand op .eorAbs rest
  | 0x4E => wordOperand op .lsrAbs rest
  | 0x50 => byteOperand op .bvc rest
  | 0x51 => byteOperand op .eorIndY rest
  | 0x55 => byteOperand op .eorZpX rest
  | 0x56 => byteOperand op .lsrZpX rest
  | 0x58 => noOperand .cli rest
  | 0x59 => wordOperand op .eorAbsY rest
  | 0x5D => wordOperand op .eorAbsX rest
  | 0x5E => wordOperand op .lsrAbsX rest
  | 0x60 => noOperand .rts rest
  | 0x61 => byteOperand op .adcIndX rest
  | 0x65 => byteOperand op .adcZp rest
  | 0x66 => byteOperand op .rorZp rest
  | 0x68 => noOperand .pla rest
  | 0x69 => byteOperand op .adcImm rest
  | 0x6A => noOperand .rorAcc rest
  | 0x6C => wordOperand op .jmpInd rest
  | 0x6D => wordOperand op .adcAbs rest
  | 0x6E => wordOperand op .rorAbs rest
  | 0x70 => byteOperand op .bvs rest
  | 0x71 => byteOperand op .adcIndY rest
  | 0x75 => byteOperand op .adcZpX rest
  | 0x76 => byteOperand op .rorZpX rest
  | 0x78 => noOperand .sei rest
  | 0x79 => wordOperand op .adcAbsY rest
  | 0x7D => wordOperand op .adcAbsX rest
  | 0x7E => wordOperand op .rorAbsX rest
  | 0x81 => byteOperand op .staIndX rest
  | 0x84 => byteOperand op .styZp rest
  | 0x85 => byteOperand op .staZp rest
  | 0x86 => byteOperand op .stxZp rest
  | 0x88 => noOperand .dey rest
  | 0x8A => noOperand .txa rest
  | 0x8C => wordOperand op .styAbs rest
  | 0x8D => wordOperand op .staAbs rest
  | 0x8E => wordOperand op .stxAbs rest
  | 0x90 => byteOperand op .bcc rest
  | 0x91 => byteOperand op .staIndY rest
  | 0x94 => byteOperand op .styZpX rest
  | 0x95 => byteOperand op .staZpX rest
  | 0x96 => byteOperand op .stxZpY rest
  | 0x98 => noOperand .tya rest
  | 0x99 => wordOperand op .staAbsY rest
  | 0x9A => noOperand .txs rest
  | 0x9D => wordOperand op .staAbsX rest
  | 0xA0 => byteOperand op .ldyImm rest
  | 0xA1 => byteOperand op .ldaIndX rest
  | 0xA2 => byteOperand op .ldxImm rest
  | 0xA4 => byteOperand op .ldyZp rest
  | 0xA5 => byteOperand op .ldaZp rest
  | 0xA6 => byteOperand op .ldxZp rest
  | 0xA8 => noOperand .tay rest
  | 0xA9 => byteOperand op .ldaImm rest
  | 0xAA => noOperand .tax rest
  | 0xAC => wordOperand op .ldyAbs rest
  | 0xAD => wordOperand op .ldaAbs rest
  | 0xAE => wordOperand op .ldxAbs rest
  | 0xB0 => byteOperand op .bcs rest
  | 0xB1 => byteOperand op .ldaIndY rest
  | 0xB4 => byteOperand op .ldyZpX rest
  | 0xB5 => byteOperand op .ldaZpX rest
  | 0xB6 => byteOperand op .ldxZpY rest
  | 0xB8 => noOperand .clv rest
  | 0xB9 => wordOperand op .ldaAbsY rest
  | 0xBA => noOperand .tsx rest
  | 0xBC => wordOperand op .ldyAbsX rest
  | 0xBD => wordOperand op .ldaAbsX rest
  | 0xBE => wordOperand op .ldxAbsY rest
  | 0xC0 => byteOperand op .cpyImm rest
  | 0xC1 => byteOperand op .cmpIndX rest
  | 0xC4 => byteOperand op .cpyZp rest
  | 0xC5 => byteOperand op .cmpZp rest
  | 0xC6 => byteOperand op .decZp rest
  | 0xC8 => noOperand .iny rest
  | 0xC9 => byteOperand op .cmpImm rest
  | 0xCA => noOperand .dex rest
  | 0xCC => wordOperand op .cpyAbs rest
  | 0xCD => wordOperand op .cmpAbs rest
  | 0xCE => wordOperand op .decAbs rest
  | 0xD0 => byteOperand op .bne rest
  | 0xD1 => byteOperand op .cmpIndY rest
  | 0xD5 => byteOperand op .cmpZpX rest
  | 0xD6 => byteOperand op .decZpX rest
  | 0xD8 => noOperand .cld rest
  | 0xD9 => wordOperand op .cmpAbsY rest
  | 0xDD => wordOperand op .cmpAbsX rest
  | 0xDE => wordOperand op .decAbsX rest
  | 0xE0 => byteOperand op .cpxImm rest
  | 0xE1 => byteOperand op .sbcIndX rest
  | 0xE4 => byteOperand op .cpxZp rest
  | 0xE5 => byteOperand op .sbcZp rest
  | 0xE6 => byteOperand op .incZp rest
  | 0xE8 => noOperand .inx rest
  | 0xE9 => byteOperand op .sbcImm rest
  | 0xEA => noOperand .nop rest
  | 0xEC => wordOperand op .cpxAbs rest
  | 0xED => wordOperand op .sbcAbs rest
  | 0xEE => wordOperand op .incAbs rest
  | 0xF0 => byteOperand op .beq rest
  | 0xF1 => byteOperand op .sbcIndY rest
  | 0xF5 => byteOperand op .sbcZpX rest
  | 0xF6 => byteOperand op .incZpX rest
  | 0xF8 => noOperand .sed rest
  | 0xF9 => wordOperand op .sbcAbsY rest
  | 0xFD => wordOperand op .sbcAbsX rest
  | 0xFE => wordOperand op .incAbsX rest
  | _ => .error (.invalidOpcode op)

/-- The decoder: total on any bytes. It reads one instruction from the front of the list. -/
def decode : List Byte → Decoded
  | [] => .error .noBytes
  | op :: rest => decodeOpcode op rest

/-- The opcode byte of an instruction (rule R97). -/
def Instr.opcode : Instr → Byte
  | .ldaImm _ => 0xA9
  | .ldaZp _ => 0xA5
  | .ldaZpX _ => 0xB5
  | .ldaAbs _ => 0xAD
  | .ldaAbsX _ => 0xBD
  | .ldaAbsY _ => 0xB9
  | .ldaIndX _ => 0xA1
  | .ldaIndY _ => 0xB1
  | .ldxImm _ => 0xA2
  | .ldxZp _ => 0xA6
  | .ldxZpY _ => 0xB6
  | .ldxAbs _ => 0xAE
  | .ldxAbsY _ => 0xBE
  | .ldyImm _ => 0xA0
  | .ldyZp _ => 0xA4
  | .ldyZpX _ => 0xB4
  | .ldyAbs _ => 0xAC
  | .ldyAbsX _ => 0xBC
  | .staZp _ => 0x85
  | .staZpX _ => 0x95
  | .staAbs _ => 0x8D
  | .staAbsX _ => 0x9D
  | .staAbsY _ => 0x99
  | .staIndX _ => 0x81
  | .staIndY _ => 0x91
  | .stxZp _ => 0x86
  | .stxZpY _ => 0x96
  | .stxAbs _ => 0x8E
  | .styZp _ => 0x84
  | .styZpX _ => 0x94
  | .styAbs _ => 0x8C
  | .tax => 0xAA
  | .tay => 0xA8
  | .tsx => 0xBA
  | .txa => 0x8A
  | .txs => 0x9A
  | .tya => 0x98
  | .pha => 0x48
  | .php => 0x08
  | .pla => 0x68
  | .plp => 0x28
  | .adcImm _ => 0x69
  | .adcZp _ => 0x65
  | .adcZpX _ => 0x75
  | .adcAbs _ => 0x6D
  | .adcAbsX _ => 0x7D
  | .adcAbsY _ => 0x79
  | .adcIndX _ => 0x61
  | .adcIndY _ => 0x71
  | .sbcImm _ => 0xE9
  | .sbcZp _ => 0xE5
  | .sbcZpX _ => 0xF5
  | .sbcAbs _ => 0xED
  | .sbcAbsX _ => 0xFD
  | .sbcAbsY _ => 0xF9
  | .sbcIndX _ => 0xE1
  | .sbcIndY _ => 0xF1
  | .andImm _ => 0x29
  | .andZp _ => 0x25
  | .andZpX _ => 0x35
  | .andAbs _ => 0x2D
  | .andAbsX _ => 0x3D
  | .andAbsY _ => 0x39
  | .andIndX _ => 0x21
  | .andIndY _ => 0x31
  | .oraImm _ => 0x09
  | .oraZp _ => 0x05
  | .oraZpX _ => 0x15
  | .oraAbs _ => 0x0D
  | .oraAbsX _ => 0x1D
  | .oraAbsY _ => 0x19
  | .oraIndX _ => 0x01
  | .oraIndY _ => 0x11
  | .eorImm _ => 0x49
  | .eorZp _ => 0x45
  | .eorZpX _ => 0x55
  | .eorAbs _ => 0x4D
  | .eorAbsX _ => 0x5D
  | .eorAbsY _ => 0x59
  | .eorIndX _ => 0x41
  | .eorIndY _ => 0x51
  | .bitZp _ => 0x24
  | .bitAbs _ => 0x2C
  | .cmpImm _ => 0xC9
  | .cmpZp _ => 0xC5
  | .cmpZpX _ => 0xD5
  | .cmpAbs _ => 0xCD
  | .cmpAbsX _ => 0xDD
  | .cmpAbsY _ => 0xD9
  | .cmpIndX _ => 0xC1
  | .cmpIndY _ => 0xD1
  | .cpxImm _ => 0xE0
  | .cpxZp _ => 0xE4
  | .cpxAbs _ => 0xEC
  | .cpyImm _ => 0xC0
  | .cpyZp _ => 0xC4
  | .cpyAbs _ => 0xCC
  | .incZp _ => 0xE6
  | .incZpX _ => 0xF6
  | .incAbs _ => 0xEE
  | .incAbsX _ => 0xFE
  | .inx => 0xE8
  | .iny => 0xC8
  | .decZp _ => 0xC6
  | .decZpX _ => 0xD6
  | .decAbs _ => 0xCE
  | .decAbsX _ => 0xDE
  | .dex => 0xCA
  | .dey => 0x88
  | .aslAcc => 0x0A
  | .aslZp _ => 0x06
  | .aslZpX _ => 0x16
  | .aslAbs _ => 0x0E
  | .aslAbsX _ => 0x1E
  | .lsrAcc => 0x4A
  | .lsrZp _ => 0x46
  | .lsrZpX _ => 0x56
  | .lsrAbs _ => 0x4E
  | .lsrAbsX _ => 0x5E
  | .rolAcc => 0x2A
  | .rolZp _ => 0x26
  | .rolZpX _ => 0x36
  | .rolAbs _ => 0x2E
  | .rolAbsX _ => 0x3E
  | .rorAcc => 0x6A
  | .rorZp _ => 0x66
  | .rorZpX _ => 0x76
  | .rorAbs _ => 0x6E
  | .rorAbsX _ => 0x7E
  | .jmpAbs _ => 0x4C
  | .jmpInd _ => 0x6C
  | .jsr _ => 0x20
  | .rts => 0x60
  | .rti => 0x40
  | .bcc _ => 0x90
  | .bcs _ => 0xB0
  | .beq _ => 0xF0
  | .bmi _ => 0x30
  | .bne _ => 0xD0
  | .bpl _ => 0x10
  | .bvc _ => 0x50
  | .bvs _ => 0x70
  | .clc => 0x18
  | .cld => 0xD8
  | .cli => 0x58
  | .clv => 0xB8
  | .sec => 0x38
  | .sed => 0xF8
  | .sei => 0x78
  | .nop => 0xEA
  | .brk => 0x00

/-- A memory operand's bytes as rule R91 lays them out: one zero-page byte, or low then high. -/
def MemOperand.bytes : MemOperand → List Byte
  | .zeroPage zp | .zeroPageX zp | .zeroPageY zp | .indirectX zp | .indirectY zp => [zp]
  | .absolute addr | .absoluteX addr | .absoluteY addr => [loByte addr, hiByte addr]

/-- The operand bytes as rule R91 lays them out. -/
def Operand.bytes : Operand → List Byte
  | .implied | .accumulator => []
  | .immediate v => [v]
  | .memory m => m.bytes
  | .indirect ptr => [loByte ptr, hiByte ptr]
  | .relative disp => [disp]

/-- The encoder: opcode byte, then operand bytes (rule R90). -/
def encode (i : Instr) : List Byte := i.opcode :: i.operand.bytes

/-- The opcode byte of a mnemonic in a mode, from the table of rule R96 (used by the assembler, rule R286). -/
def opcodeOf (mn : Mnemonic) (md : Mode) : Option Byte :=
  (opcodeTable.find? (fun d => d.mnemonic == mn && d.mode == md)).map (·.opcode)

/-- The three bytes, in memory order, of an instruction whose bits are `w` (bit 0 the least significant bit of the
first byte); every bit from `nbits` up is 0. -/
def tableBytes (nbits w : Nat) : List Byte :=
  let v := w % 2 ^ nbits
  [BitVec.ofNat 8 v, BitVec.ofNat 8 (v / 256), BitVec.ofNat 8 (v / 65536)]

/-- The instruction the decoder reads from a word numbered as opcode_table.json numbers it. -/
def decodeTableWord (nbits w : Nat) : Option Instr :=
  match decode (tableBytes nbits w) with
  | .ok (i, _) => some i
  | .error _ => none

end Sys2Proof
end

