-- ==== Sys2Proof/Config.lean ====
section
/-! DEFINITION. What an implementation fixes and what the spec leaves open. The open values are constants with no
body: nothing in Lean can evaluate one, so a claim about them holds whatever they are. -/

namespace Sys2Proof

/-- The values of the open parameter `DECIMAL_MODE` (00_scope.md rule R9, 92_eei_decisions.md D3). -/
inductive DecimalMode
  | binary
  | nmosBcd
  deriving DecidableEq, Repr, Inhabited

/-- The values of the open parameter `JMP_IND_WRAP` (rule R9, D4). -/
inductive JmpIndWrap
  | pageWrap
  | linear
  deriving DecidableEq, Repr, Inhabited

/-- The access policy of a region (20_memory.md rule R52). -/
inductive Policy
  | ram
  | rom
  | io
  deriving DecidableEq, Repr

/-- A Memory Region (rule R52): the addresses from `base`, `length` of them. -/
structure Region where
  base : Addr
  length : Nat
  policy : Policy
  deriving DecidableEq, Repr

/-- The two setup errors of region registration (rule R64). -/
inductive RegionError
  | overlapError
  | outOfBoundsError
  deriving DecidableEq, Repr

namespace Config

/-- OPEN (D3): what the hardware's ADC and SBC do with D = 1. Log 1. -/
opaque decimalMode : DecimalMode

/-- OPEN (D4): where JMP (pointer) reads the high byte when the pointer's low byte is $FF. Log 2. -/
opaque jmpIndWrap : JmpIndWrap

/-- OPEN (D11): `InitMem`, the byte at each address before anything is loaded or written. Log 3. -/
opaque initMem : Nat → Byte

/-- OPEN (D12): `IoUnhandledRead`, the byte the n-th read of an unhandled IO address returns. Log 4. -/
opaque ioUnhandledRead : Nat → Byte

/-- The human-readable cause the assembler reports with an error of a kind on a line: 48_assembler.md rule R270 says
there is one and not its wording. Log 12. -/
opaque asmErrorCause : AsmErrorKind → Nat → String

/-- The message the Loader surfaces when a region registration fails: 70_reset_and_hazards.md rule R354 says there is
one and not its wording. Log 17. -/
opaque regionErrorMessage : RegionError → String

/-- The message the Loader surfaces when a load is refused (rules R75, R354). Log 17. -/
opaque loadRefusedMessage : String

/-- The message the Loader surfaces when the engine faults at an address on a byte (rule R354). Log 17. -/
opaque invalidOpcodeMessage : Addr → Byte → String

end Config

end Sys2Proof
end

