-- ==== Sys2Proof/Machine/Memory.lean ====
section
/-! DEFINITION. `Store`, the 65536 bytes of backing storage (20_memory.md rule R53), as a sparse list in one canonical
form. A listed address has been loaded or written; an unlisted one holds `InitMem` (rule R53, D11; log 3). -/

namespace Sys2Proof.Machine

/-- The bytes loaded or written so far, by rising address. -/
abbrev Memory := List Host.Cell

/-- The listed byte at an address, if it is listed. -/
def Memory.find : Memory → Nat → Option Byte
  | [], _ => none
  | (b, v) :: rest, a => if a = b then some v else if a < b then none else Memory.find rest a

/-- `Store[a]`: the listed byte, or the byte of `InitMem`. -/
def Memory.byte (m : Memory) (a : Nat) : Byte :=
  match m.find a with
  | some v => v
  | none => Config.initMem a

/-- `Store[a] <- v`, keeping the addresses strictly rising. -/
def Memory.put : Memory → Nat → Byte → Memory
  | [], a, v => [(a, v)]
  | (b, w) :: rest, a, v =>
    if a < b then (a, v) :: (b, w) :: rest
    else if a = b then (a, v) :: rest
    else (b, w) :: Memory.put rest a v

/-- Every address is at least `low` and below 65536, and the addresses rise strictly. -/
def Memory.wfFrom : Nat → Memory → Bool
  | _, [] => true
  | low, (a, _) :: rest => decide (low ≤ a) && decide (a < 65536) && Memory.wfFrom (a + 1) rest

/-- The canonical form of `Store`. An unlisted address has no value of its own in the list, so no listed value has to
be left out (log 3). -/
def Memory.wf (m : Memory) : Bool := m.wfFrom 0

end Sys2Proof.Machine
end

