-- ==== Sys2Proof/Machine/Regions.lean ====
section
/-! DEFINITION. The region set: lookup and policy (20_memory.md rules R52, R54, R61), registration (R64, R65), the
default map (R62) and the fixed addresses of 00_scope.md rule R8. -/

namespace Sys2Proof.Machine

/-- The address whose read takes one input unit (rules R8, R68). -/
def consoleIn : Addr := 0xD010

/-- The address whose write emits one output unit (rules R8, R69). -/
def consoleOut : Addr := 0xD020

/-- The default start address: the ROM base (rules R8, R351). -/
def defaultOrigin : Addr := 0xA000

/-- `r.base <= a < r.base + r.length` (rule R54). -/
def regionContains (r : Region) (a : Addr) : Bool :=
  decide (r.base.toNat ≤ a.toNat) && decide (a.toNat < r.base.toNat + r.length)

/-- `region(a)`, with none for `DefaultRAM` (rule R54). In a set that R65's invariant holds of there is at most one. -/
def regionOf (regions : List Region) (a : Addr) : Option Region := regions.find? (fun r => regionContains r a)

/-- The policy an address is under; default RAM behaves as RAM (rule R61). The kind of access plays no part (R54). -/
def policyAt (regions : List Region) (a : Addr) : Policy :=
  match regionOf regions a with
  | some r => r.policy
  | none => .ram

/-- The default layout of rule R62; $C000 to $CFFF is left to default RAM. -/
def defaultRegions : List Region :=
  [⟨0x0000, 0xA000, .ram⟩, ⟨0xA000, 0x2000, .rom⟩, ⟨0xD000, 0x1000, .io⟩, ⟨0xE000, 0x2000, .rom⟩]

/-- A region inside the address space and not empty (rule R64, D19). -/
def regionInBounds (r : Region) : Bool := decide (r.length ≠ 0) && decide (r.base.toNat + r.length ≤ 65536)

/-- The intersection test of rule R64. -/
def regionsOverlap (r q : Region) : Bool :=
  decide (r.base.toNat < q.base.toNat + q.length) && decide (q.base.toNat < r.base.toNat + r.length)

/-- `register_region` (rule R64): the bounds are tested before the overlap (D19). -/
def registerRegion (r : Region) (regions : List Region) : Except RegionError (List Region) :=
  if regionInBounds r = false then .error .outOfBoundsError
  else if regions.any (regionsOverlap r) then .error .overlapError
  else .ok (regions ++ [r])

/-- Several registrations in order; the first error aborts (rule R64: "no partial-initialization state"). -/
def registerAll : List Region → List Region → Except RegionError (List Region)
  | [], regions => .ok regions
  | r :: rest, regions =>
    match registerRegion r regions with
    | .ok regions' => registerAll rest regions'
    | .error e => .error e

/-- The invariant of rule R65: every region is in bounds and no two intersect. -/
def regionsWf : List Region → Bool
  | [] => true
  | r :: rest => regionInBounds r && !rest.any (regionsOverlap r) && regionsWf rest

end Sys2Proof.Machine
end

