-- ==== Sys2Proof/Machine/State.lean ====
section
/-! DEFINITION. The state of the block (10_state.md, 20_memory.md), the reset state, and why a meaning or a step may
fail to answer a next state. -/

namespace Sys2Proof.Machine

/-- The causes of a fault (60_exceptions.md rule R321); code 0 is `InvalidOpcode`. -/
inductive Cause
  | invalidOpcode
  deriving DecidableEq, Repr

/-- The engine state (10_state.md rule R32). `faulted` carries the fault record of rule R33. -/
inductive Engine
  | running
  | halted
  | faulted (cause : Cause) (addr : Addr) (byte : Byte)
  deriving DecidableEq, Repr

/-- Everything the spec gives the machine. -/
structure State where
  /-- accumulator A (R21) -/
  a : Byte
  /-- index register X (R22) -/
  x : Byte
  /-- index register Y (R23) -/
  y : Byte
  /-- stack pointer SP (R24): the stack byte is at $0100 + SP -/
  sp : Byte
  /-- program counter PC (R25) -/
  pc : Addr
  /-- Negative (R26, R28) -/
  flagN : Bool
  /-- Overflow (R26, R28) -/
  flagV : Bool
  /-- Break (R26, R29): no instruction writes it -/
  flagB : Bool
  /-- Decimal (R26, R28) -/
  flagD : Bool
  /-- InterruptDisable (R26, R28) -/
  flagI : Bool
  /-- Zero (R26, R28) -/
  flagZ : Bool
  /-- Carry (R26, R28) -/
  flagC : Bool
  /-- engine state and fault record (R32, R33) -/
  engine : Engine
  /-- `Store` (R53) -/
  mem : Memory
  /-- `In`: the units the host has supplied so far (R68; log 5) -/
  input : List Byte
  /-- `k`: the position in the input stream (R35, R68) -/
  inputPos : Nat
  /-- the host's stream ends after the units supplied so far (R68, R144; log 5) -/
  inputEnded : Bool
  /-- `Out`: the output stream (R35, R69) -/
  output : List Byte
  /-- how many `IoUnhandledRead` draws have been made (R70). The model's own field (log 4). -/
  ioDraws : Nat
  /-- the parameter `Regions` (R9, R36, R62); no step writes it -/
  regions : List Region
  /-- the parameter `DECIMAL_MODE` (R9, R191); no step writes it -/
  decimalMode : DecimalMode
  /-- the parameter `JMP_IND_WRAP` (R9, R133); no step writes it -/
  jmpIndWrap : JmpIndWrap
  deriving DecidableEq, Repr

/-- Why a meaning does not complete. -/
inductive Fault
  /-- Raised by a meaning one of whose reads of $D010 finds no input unit available (20_memory.md rule R68): the
  instruction has no step yet and nothing of it has taken effect (40_execution_and_addressing.md rule R144). Safe:
  the step function turns it into "the state is unchanged" (log 6). -/
  | inputAwaited
  deriving DecidableEq, Repr

/-- Why the model gives an instruction no meaning. -/
inductive Refusal
  /-- Would be raised by `exec`'s arm of an instruction that has no meaning yet. Safe. No arm raises it: every
  instruction of the opcode table has its meaning. -/
  | notModelled (mnemonic : String)
  deriving DecidableEq, Repr

/-- The register file and engine after reset with a given start address (rules R38, R39, R350, R351); memory lists
nothing, the streams are at their start, and the open parameters are the uninterpreted constants of `Config`. -/
def State.resetAt (start : Addr) : State where
  a := 0x00
  x := 0x00
  y := 0x00
  sp := 0xFF
  pc := start
  flagN := false
  flagV := false
  flagB := false
  flagD := false
  flagI := true
  flagZ := false
  flagC := false
  engine := .running
  mem := []
  input := []
  inputPos := 0
  inputEnded := false
  output := []
  ioDraws := 0
  regions := defaultRegions
  decimalMode := Config.decimalMode
  jmpIndWrap := Config.jmpIndWrap

/-- The machine right after reset, with the default start address $A000 (rule R351; log 7). -/
def State.reset : State := State.resetAt defaultOrigin

end Sys2Proof.Machine
end

