-- ==== Sys2Proof/Machine/Ops.lean ====
section
/-! DEFINITION. The named operations every meaning is written with: register writes, the memory contract `read` and
`write` (20_memory.md rules R51 to R70), the stack primitives (10_state.md rules R30, R31), halting and raising
`InvalidOpcode` (00_scope.md rule R15), and completing an instruction. -/

namespace Sys2Proof.Machine

/-- What a meaning answers. -/
abbrev Result := Host.Outcome State Fault Refusal

/-! ### Register writes -/

def State.setA (v : Byte) (s : State) : State := { s with a := v }
def State.setX (v : Byte) (s : State) : State := { s with x := v }
def State.setY (v : Byte) (s : State) : State := { s with y := v }
def State.setSP (v : Byte) (s : State) : State := { s with sp := v }
def State.setPC (t : Addr) (s : State) : State := { s with pc := t }
def State.setN (f : Bool) (s : State) : State := { s with flagN := f }
def State.setV (f : Bool) (s : State) : State := { s with flagV := f }
def State.setD (f : Bool) (s : State) : State := { s with flagD := f }
def State.setI (f : Bool) (s : State) : State := { s with flagI := f }
def State.setZ (f : Bool) (s : State) : State := { s with flagZ := f }
def State.setC (f : Bool) (s : State) : State := { s with flagC := f }
def State.setEngine (e : Engine) (s : State) : State := { s with engine := e }

/-- `setNZ(v)` (40_execution_and_addressing.md rule R140): `Z <- (v == 0); N <- v[7]`. -/
def State.setNZ (v : Byte) (s : State) : State := { s with flagZ := v == 0, flagN := v.getLsbD 7 }

/-! ### The memory contract -/

/-- The policy of an address in this machine's region set (rule R54). -/
def State.policy (s : State) (a : Addr) : Policy := policyAt s.regions a

/-- `Store[a]`, with no access and no handler. -/
def State.byteAt (s : State) (a : Addr) : Byte := s.mem.byte a.toNat

/-- `Store[a] <- v`, whatever the policy of the address: what a RAM write and the loader do (rules R56, R75). -/
def State.putByte (a : Addr) (v : Byte) (s : State) : State := { s with mem := s.mem.put a.toNat v }

/-- One input unit is consumed (rule R68). -/
def State.consumeInput (s : State) : State := { s with inputPos := s.inputPos + 1 }

/-- One output unit is emitted (rule R69). -/
def State.emit (v : Byte) (s : State) : State := { s with output := s.output ++ [v] }

/-- One `IoUnhandledRead` draw is made (rule R70; log 4). -/
def State.drawIo (s : State) : State := { s with ioDraws := s.ioDraws + 1 }

/-- `read(a)`. RAM, default RAM and ROM answer `Store[a]` with no side effect (rules R55, R57, R66). An IO read of
$D010 takes the next input unit, and has no answer while none is available (rule R68): `none`. Any other IO read is
answered by a fresh draw (rule R70). -/
def State.read (s : State) (a : Addr) : Option (Byte × State) :=
  match s.policy a with
  | .ram => some (s.byteAt a, s)
  | .rom => some (s.byteAt a, s)
  | .io =>
    if a = consoleIn then
      match s.input[s.inputPos]? with
      | some u => some (u, s.consumeInput)
      | none => none
    else some (Config.ioUnhandledRead s.ioDraws, s.drawIo)

/-- `write(a, v)`. RAM and default RAM store it (rule R56); ROM drops it (rule R58); an IO write of $D020 emits it
(rule R69) and any other IO write has no effect (rule R70). -/
def State.write (a : Addr) (v : Byte) (s : State) : State :=
  match s.policy a with
  | .ram => s.putByte a v
  | .rom => s
  | .io => if a = consoleOut then s.emit v else s

/-- Two reads in order, giving `second ++ first` (rule R14, R71): a little-endian pair at two addresses. -/
def State.readPair (s : State) (loAddr hiAddr : Addr) : Option (Addr × State) :=
  (s.read loAddr).bind fun p => (p.2.read hiAddr).map fun q => (word q.1 p.1, q.2)

/-! ### The stack -/

/-- The address of the stack byte SP designates, `$0100 + SP` (rule R24). -/
def stackAddr (sp : Byte) : Addr := word 0x01 sp

/-- `Push(v)` (rule R30): write, then decrement SP, which wraps. -/
def State.push (v : Byte) (s : State) : State := (s.write (stackAddr s.sp) v).setSP (s.sp - 1)

/-- `Pull()` (rule R31): increment SP, which wraps, then read. -/
def State.pull (s : State) : Option (Byte × State) := (s.setSP (s.sp + 1)).read (stackAddr (s.sp + 1))

/-- Two pulls, low byte first (rules R232, R233). -/
def State.pullWord (s : State) : Option (Addr × State) :=
  s.pull.bind fun p => p.2.pull.map fun q => (word q.1 p.1, q.2)

/-! ### Control -/

/-- `halt` (rule R15). -/
def State.halt (s : State) : State := s.setEngine .halted

/-- `raise InvalidOpcode(addr, byte)` (60_exceptions.md rule R322), the one exception of this hardware: the engine
stops with the record and nothing else changes. No state is saved, no vector is read (rule R329), and nothing
returns from it (rule R330). -/
def State.raiseInvalidOpcode (addr : Addr) (byte : Byte) (s : State) : State :=
  s.setEngine (.faulted .invalidOpcode addr byte)

/-! ### Completing an instruction -/

/-- The answer of a meaning: the state it leaves, or no step yet when a read of $D010 found no unit (rule R144). -/
def complete : Option State → Result
  | some t => .next t
  | none => .fault .inputAwaited

/-- "a step is all or nothing" (rule R144): what the step answers when the instruction was to be executed from the
state `before`. An instruction that awaits input leaves `before` unchanged. -/
def settle (before : State) : Result → Result
  | .next t => .next t
  | .fault .inputAwaited => .next before
  | .refused r => .refused r

end Sys2Proof.Machine
end

