-- ==== Sys2Proof/Machine/Flags.lean ====
section
/-! DEFINITION. The flag computations: binary and decimal addition and subtraction (43_arith_logic_compare.md rules
R190 to R192), comparison (R193), the shifts' carries (44_incdec_shift.md rules R216 to R219), and the status byte P
(10_state.md rule R27, 42_transfer_stack.md rules R177, R179). -/

namespace Sys2Proof.Machine

/-- What an addition or subtraction gives: the byte for A and the four flags it writes. -/
structure ArithResult where
  value : Byte
  n : Bool
  v : Bool
  z : Bool
  c : Bool
  deriving DecidableEq, Repr

/-- `AddBin(a, m, c)` (rule R190), with N and Z of the result as `setNZ` writes them (rule R194). -/
def addBin (a m : Byte) (c : Bool) : ArithResult :=
  let s := a.toNat + m.toNat + c.toNat
  let r := BitVec.ofNat 8 s
  { value := r
    n := r.getLsbD 7
    v := ((a ^^^ r) &&& (m ^^^ r) &&& 0x80) != 0
    z := r == 0
    c := decide (s > 255) }

/-- Binary SBC: `AddBin(a, ~m, c)` (rule R195). -/
def subBin (a m : Byte) (c : Bool) : ArithResult := addBin a (~~~m) c

/-- The low digit `al` of rule R191, adjusted. -/
def bcdAddLow (a m : Byte) (c : Bool) : Nat :=
  let al := (a &&& 0x0F).toNat + (m &&& 0x0F).toNat + c.toNat
  if al ≥ 0x0A then (al + 0x06) % 16 + 0x10 else al

/-- `AdcBcd(a, m, c)` (rule R191): the NMOS result for every input, valid BCD or not. Z is that of the binary sum, N
and V come from the sum before the high digit is adjusted. -/
def adcBcd (a m : Byte) (c : Bool) : ArithResult :=
  let bin := BitVec.ofNat 8 (a.toNat + m.toNat + c.toNat)
  let al := bcdAddLow a m c
  let t := (a &&& 0xF0).toNat + (m &&& 0xF0).toNat + al
  let ts := (a &&& 0xF0).toInt + (m &&& 0xF0).toInt + (al : Int)
  let t' := if t ≥ 0xA0 then t + 0x60 else t
  { value := BitVec.ofNat 8 t'
    n := t.testBit 7
    v := decide (ts < -128) || decide (ts > 127)
    z := bin == 0
    c := decide (t' ≥ 0x100) }

/-- The low digit `al` of rule R192, adjusted; `&` with $0F of a negative integer is its remainder modulo 16. -/
def bcdSubLow (a m : Byte) (c : Bool) : Int :=
  let al : Int := ((a &&& 0x0F).toNat : Int) - ((m &&& 0x0F).toNat : Int) + (c.toNat : Int) - 1
  if al < 0 then (al - 6) % 16 - 16 else al

/-- `SbcBcd(a, m, c)` (rule R192): the flags are those of binary SBC, only the value differs. -/
def sbcBcd (a m : Byte) (c : Bool) : ArithResult :=
  let t := ((a &&& 0xF0).toNat : Int) - ((m &&& 0xF0).toNat : Int) + bcdSubLow a m c
  let t' := if t < 0 then t - 0x60 else t
  { subBin a m c with value := BitVec.ofInt 8 t' }

/-- Whether ADC and SBC are decimal: D = 1 and `DECIMAL_MODE = NmosBcd` (rules R194, R195; log 1). -/
def State.decimal (s : State) : Bool := s.flagD && decide (s.decimalMode = .nmosBcd)

/-- A takes the value of an addition or subtraction, and N, V, Z, C its flags. -/
def State.setArith (r : ArithResult) (s : State) : State :=
  { s with a := r.value, flagN := r.n, flagV := r.v, flagZ := r.z, flagC := r.c }

/-- The execute phase of ADC (rule R194). -/
def State.addToA (m : Byte) (s : State) : State :=
  s.setArith (if s.decimal then adcBcd s.a m s.flagC else addBin s.a m s.flagC)

/-- The execute phase of SBC (rule R195). -/
def State.subFromA (m : Byte) (s : State) : State :=
  s.setArith (if s.decimal then sbcBcd s.a m s.flagC else subBin s.a m s.flagC)

/-- `Compare(r, m)` (rule R193). -/
def State.compare (r m : Byte) (s : State) : State :=
  { s with flagC := decide (m.toNat ≤ r.toNat), flagZ := r == m, flagN := (r - m).getLsbD 7 }

/-- The flags of BIT (rule R199): Z from A and m, N and V from m alone. -/
def State.bitTest (m : Byte) (s : State) : State :=
  { s with flagZ := (s.a &&& m) == 0, flagN := m.getLsbD 7, flagV := m.getLsbD 6 }

/-- A byte with its top bit `b` and the rest 0: `cin << 7` of rule R219. -/
def bitSeven (b : Bool) : Byte := if b then 0x80 else 0x00

/-- A byte with its low bit `b` and the rest 0: `cin` of rule R218. -/
def bitZero (b : Bool) : Byte := if b then 0x01 else 0x00

/-- `P(bits5, bits4)` (rule R27). -/
def State.statusByte (bit5 bit4 : Bool) (s : State) : Byte :=
  BitVec.ofNat 8 (s.flagN.toNat * 128 + s.flagV.toNat * 64 + bit5.toNat * 32 + bit4.toNat * 16 + s.flagD.toNat * 8
    + s.flagI.toNat * 4 + s.flagZ.toNat * 2 + s.flagC.toNat)

/-- The six flags PLP and RTI take from a byte (rules R179, R233); bits 5 and 4 are ignored and B is kept. -/
def State.loadStatus (p : Byte) (s : State) : State :=
  { s with flagN := p.getLsbD 7, flagV := p.getLsbD 6, flagD := p.getLsbD 3, flagI := p.getLsbD 2
           flagZ := p.getLsbD 1, flagC := p.getLsbD 0 }

end Sys2Proof.Machine
end

