-- ==== Sys2Proof/Machine/Operands.lean ====
section
/-! DEFINITION. Operand resolution (40_execution_and_addressing.md rules R121 to R142). The state given is the one
after the instruction's bytes are fetched: PC is the address after the instruction. -/

namespace Sys2Proof.Machine

/-- `zext_16` of a zero-page byte: an address in $0000 to $00FF (rule R128). -/
def zeroPageAddr (zp : Byte) : Addr := zp.setWidth 16

/-- `ZpPtr(p)` (rule R134): both pointer bytes lie in page zero, the low one is read first. -/
def zeroPagePointer (p : Byte) (s : State) : Option (Addr × State) :=
  s.readPair (zeroPageAddr p) (zeroPageAddr (p + 1))

/-- `Resolve` for a mode that yields the effective address of a byte (rules R128 to R136). Only the indirect modes
read memory, and never the data byte itself (rule R121). -/
def effectiveAddress (m : MemOperand) (s : State) : Option (Addr × State) :=
  match m with
  | .zeroPage zp => some (zeroPageAddr zp, s)
  | .zeroPageX zp => some (zeroPageAddr (zp + s.x), s)
  | .zeroPageY zp => some (zeroPageAddr (zp + s.y), s)
  | .absolute addr => some (addr, s)
  | .absoluteX addr => some (addr + s.x.setWidth 16, s)
  | .absoluteY addr => some (addr + s.y.setWidth 16, s)
  | .indirectX zp => zeroPagePointer (zp + s.x) s
  | .indirectY zp => (zeroPagePointer zp s).map fun p => (p.1 + s.y.setWidth 16, p.2)

/-- Where JMP Indirect reads the high byte of its target (rule R133): the settings differ only when the pointer's low
byte is $FF. -/
def jumpHighAddr (wrap : JmpIndWrap) (ptr : Addr) : Addr :=
  if loByte ptr = 0xFF then
    match wrap with
    | .pageWrap => word (hiByte ptr) 0x00
    | .linear => ptr + 1
  else ptr + 1

/-- `Resolve` for Indirect (rule R133): the jump target read through the pointer. -/
def indirectTarget (ptr : Addr) (s : State) : Option (Addr × State) :=
  s.readPair ptr (jumpHighAddr s.jmpIndWrap ptr)

/-- `Resolve` for Relative (rule R137): the displacement is signed and counts from the next instruction. -/
def branchTarget (disp : Byte) (s : State) : Addr := s.pc + disp.signExtend 16

/-- `Operand(opd)` of a read instruction (rule R123): the immediate value, or one read of the effective address. -/
def sourceValue (src : Source) (s : State) : Option (Byte × State) :=
  match src with
  | .immediate v => some (v, s)
  | .memory m => (effectiveAddress m s).bind fun p => p.2.read p.1

/-- Where a shift or RMW instruction loads from and stores to, once resolved. -/
inductive Place
  | accumulator
  | address (a : Addr)
  deriving DecidableEq, Repr

/-- Resolving the target of a shift or RMW instruction (rules R126, R142). -/
def resolveTarget (t : Target) (s : State) : Option (Place × State) :=
  match t with
  | .accumulator => some (.accumulator, s)
  | .memory m => (effectiveAddress m s).map fun p => (.address p.1, p.2)

/-- `Load()` (rule R142). -/
def loadPlace (p : Place) (s : State) : Option (Byte × State) :=
  match p with
  | .accumulator => some (s.a, s)
  | .address a => s.read a

/-- `Store(v)` (rule R142). -/
def storePlace (p : Place) (v : Byte) (s : State) : State :=
  match p with
  | .accumulator => s.setA v
  | .address a => s.write a v

/-- A read instruction: take the operand, then do `f` with it (rule R139, category read). -/
def withSource (src : Source) (f : Byte → State → State) (s : State) : Result :=
  complete ((sourceValue src s).map fun p => f p.1 p.2)

/-- A store instruction: one write of a register to the effective address, which is not read (rules R123, R139). -/
def storeReg (m : MemOperand) (reg : State → Byte) (s : State) : Result :=
  complete ((effectiveAddress m s).map fun p => p.2.write p.1 (reg p.2))

/-- A shift or RMW instruction (rule R142): `Load` once, change the byte, `Store` once, then write the flags. `f` takes
the byte and the carry to the result and what happens to the flags. -/
def modify (t : Target) (f : Byte → Bool → Byte × (State → State)) (s : State) : Result :=
  complete ((resolveTarget t s).bind fun p => (loadPlace p.1 p.2).map fun q =>
    (f q.1 q.2.flagC).2 (storePlace p.1 (f q.1 q.2.flagC).1 q.2))

end Sys2Proof.Machine
end

