-- ==== Sys2Proof/Machine/ArithLogic.lean ====
section
/-! DEFINITION. Arithmetic, logic and compare instructions (43_arith_logic_compare.md rules R190 to R203). -/

namespace Sys2Proof.Machine

/-- ADC (R194). -/
def addWithCarry (src : Source) (s : State) : Result := withSource src State.addToA s

/-- SBC (R195). -/
def subWithBorrow (src : Source) (s : State) : Result := withSource src State.subFromA s

/-- AND (R196): `A <- A & m; setNZ(A)`. -/
def andA (src : Source) (s : State) : Result := withSource src (fun m t => (t.setA (t.a &&& m)).setNZ (t.a &&& m)) s

/-- ORA (R197). -/
def orA (src : Source) (s : State) : Result := withSource src (fun m t => (t.setA (t.a ||| m)).setNZ (t.a ||| m)) s

/-- EOR (R198). -/
def xorA (src : Source) (s : State) : Result := withSource src (fun m t => (t.setA (t.a ^^^ m)).setNZ (t.a ^^^ m)) s

/-- BIT (R199). -/
def testBits (src : Source) (s : State) : Result := withSource src State.bitTest s

/-- CMP (R200). -/
def compareA (src : Source) (s : State) : Result := withSource src (fun m t => t.compare t.a m) s

/-- CPX (R201). -/
def compareX (src : Source) (s : State) : Result := withSource src (fun m t => t.compare t.x m) s

/-- CPY (R202). -/
def compareY (src : Source) (s : State) : Result := withSource src (fun m t => t.compare t.y m) s

/-! ADC -/

def execAdcImm (v : Byte) (s : State) : Result := addWithCarry (.immediate v) s
def execAdcZp (zp : Byte) (s : State) : Result := addWithCarry (.memory (.zeroPage zp)) s
def execAdcZpX (zp : Byte) (s : State) : Result := addWithCarry (.memory (.zeroPageX zp)) s
def execAdcAbs (addr : Addr) (s : State) : Result := addWithCarry (.memory (.absolute addr)) s
def execAdcAbsX (addr : Addr) (s : State) : Result := addWithCarry (.memory (.absoluteX addr)) s
def execAdcAbsY (addr : Addr) (s : State) : Result := addWithCarry (.memory (.absoluteY addr)) s
def execAdcIndX (zp : Byte) (s : State) : Result := addWithCarry (.memory (.indirectX zp)) s
def execAdcIndY (zp : Byte) (s : State) : Result := addWithCarry (.memory (.indirectY zp)) s

/-! SBC -/

def execSbcImm (v : Byte) (s : State) : Result := subWithBorrow (.immediate v) s
def execSbcZp (zp : Byte) (s : State) : Result := subWithBorrow (.memory (.zeroPage zp)) s
def execSbcZpX (zp : Byte) (s : State) : Result := subWithBorrow (.memory (.zeroPageX zp)) s
def execSbcAbs (addr : Addr) (s : State) : Result := subWithBorrow (.memory (.absolute addr)) s
def execSbcAbsX (addr : Addr) (s : State) : Result := subWithBorrow (.memory (.absoluteX addr)) s
def execSbcAbsY (addr : Addr) (s : State) : Result := subWithBorrow (.memory (.absoluteY addr)) s
def execSbcIndX (zp : Byte) (s : State) : Result := subWithBorrow (.memory (.indirectX zp)) s
def execSbcIndY (zp : Byte) (s : State) : Result := subWithBorrow (.memory (.indirectY zp)) s

/-! AND -/

def execAndImm (v : Byte) (s : State) : Result := andA (.immediate v) s
def execAndZp (zp : Byte) (s : State) : Result := andA (.memory (.zeroPage zp)) s
def execAndZpX (zp : Byte) (s : State) : Result := andA (.memory (.zeroPageX zp)) s
def execAndAbs (addr : Addr) (s : State) : Result := andA (.memory (.absolute addr)) s
def execAndAbsX (addr : Addr) (s : State) : Result := andA (.memory (.absoluteX addr)) s
def execAndAbsY (addr : Addr) (s : State) : Result := andA (.memory (.absoluteY addr)) s
def execAndIndX (zp : Byte) (s : State) : Result := andA (.memory (.indirectX zp)) s
def execAndIndY (zp : Byte) (s : State) : Result := andA (.memory (.indirectY zp)) s

/-! ORA -/

def execOraImm (v : Byte) (s : State) : Result := orA (.immediate v) s
def execOraZp (zp : Byte) (s : State) : Result := orA (.memory (.zeroPage zp)) s
def execOraZpX (zp : Byte) (s : State) : Result := orA (.memory (.zeroPageX zp)) s
def execOraAbs (addr : Addr) (s : State) : Result := orA (.memory (.absolute addr)) s
def execOraAbsX (addr : Addr) (s : State) : Result := orA (.memory (.absoluteX addr)) s
def execOraAbsY (addr : Addr) (s : State) : Result := orA (.memory (.absoluteY addr)) s
def execOraIndX (zp : Byte) (s : State) : Result := orA (.memory (.indirectX zp)) s
def execOraIndY (zp : Byte) (s : State) : Result := orA (.memory (.indirectY zp)) s

/-! EOR -/

def execEorImm (v : Byte) (s : State) : Result := xorA (.immediate v) s
def execEorZp (zp : Byte) (s : State) : Result := xorA (.memory (.zeroPage zp)) s
def execEorZpX (zp : Byte) (s : State) : Result := xorA (.memory (.zeroPageX zp)) s
def execEorAbs (addr : Addr) (s : State) : Result := xorA (.memory (.absolute addr)) s
def execEorAbsX (addr : Addr) (s : State) : Result := xorA (.memory (.absoluteX addr)) s
def execEorAbsY (addr : Addr) (s : State) : Result := xorA (.memory (.absoluteY addr)) s
def execEorIndX (zp : Byte) (s : State) : Result := xorA (.memory (.indirectX zp)) s
def execEorIndY (zp : Byte) (s : State) : Result := xorA (.memory (.indirectY zp)) s

/-! BIT -/

def execBitZp (zp : Byte) (s : State) : Result := testBits (.memory (.zeroPage zp)) s
def execBitAbs (addr : Addr) (s : State) : Result := testBits (.memory (.absolute addr)) s

/-! CMP -/

def execCmpImm (v : Byte) (s : State) : Result := compareA (.immediate v) s
def execCmpZp (zp : Byte) (s : State) : Result := compareA (.memory (.zeroPage zp)) s
def execCmpZpX (zp : Byte) (s : State) : Result := compareA (.memory (.zeroPageX zp)) s
def execCmpAbs (addr : Addr) (s : State) : Result := compareA (.memory (.absolute addr)) s
def execCmpAbsX (addr : Addr) (s : State) : Result := compareA (.memory (.absoluteX addr)) s
def execCmpAbsY (addr : Addr) (s : State) : Result := compareA (.memory (.absoluteY addr)) s
def execCmpIndX (zp : Byte) (s : State) : Result := compareA (.memory (.indirectX zp)) s
def execCmpIndY (zp : Byte) (s : State) : Result := compareA (.memory (.indirectY zp)) s

/-! CPX -/

def execCpxImm (v : Byte) (s : State) : Result := compareX (.immediate v) s
def execCpxZp (zp : Byte) (s : State) : Result := compareX (.memory (.zeroPage zp)) s
def execCpxAbs (addr : Addr) (s : State) : Result := compareX (.memory (.absolute addr)) s

/-! CPY -/

def execCpyImm (v : Byte) (s : State) : Result := compareY (.immediate v) s
def execCpyZp (zp : Byte) (s : State) : Result := compareY (.memory (.zeroPage zp)) s
def execCpyAbs (addr : Addr) (s : State) : Result := compareY (.memory (.absolute addr)) s

end Sys2Proof.Machine
end

