-- ==== Sys2Proof/Machine/Control.lean ====
section
/-! DEFINITION. Control transfer instructions (45_control.md rules R230 to R242). PC is already past the instruction. -/

namespace Sys2Proof.Machine

/-- JMP Absolute (R230): `PC <- t`, no data byte is read. -/
def execJmpAbs (addr : Addr) (s : State) : Result := .next (s.setPC addr)

/-- JMP Indirect (R230, R133). -/
def execJmpInd (ptr : Addr) (s : State) : Result := complete ((indirectTarget ptr s).map fun p => p.2.setPC p.1)

/-- JSR (R231): push the address of JSR's last byte, high byte first, then jump. -/
def execJsr (addr : Addr) (s : State) : Result :=
  .next (((s.push (hiByte (s.pc - 1))).push (loByte (s.pc - 1))).setPC addr)

/-- RTS (R232): pull low then high; PC is the pulled address plus 1. -/
def execRts (s : State) : Result := complete (s.pullWord.map fun p => p.2.setPC (p.1 + 1))

/-- RTI (R233): pull the flags as PLP does, then the address, to which nothing is added. -/
def execRti (s : State) : Result :=
  complete (s.pull.bind fun p => (p.2.loadStatus p.1).pullWord.map fun q => q.2.setPC q.1)

/-- The common rule of the conditional branches (R234): `if cond: PC <- t`. -/
def branchIf (cond : Bool) (disp : Byte) (s : State) : Result :=
  .next (if cond then s.setPC (branchTarget disp s) else s)

/-- BCC (R235): taken if C == 0. -/
def execBcc (disp : Byte) (s : State) : Result := branchIf (!s.flagC) disp s

/-- BCS (R236): taken if C == 1. -/
def execBcs (disp : Byte) (s : State) : Result := branchIf s.flagC disp s

/-- BEQ (R237): taken if Z == 1. -/
def execBeq (disp : Byte) (s : State) : Result := branchIf s.flagZ disp s

/-- BMI (R238): taken if N == 1. -/
def execBmi (disp : Byte) (s : State) : Result := branchIf s.flagN disp s

/-- BNE (R239): taken if Z == 0. -/
def execBne (disp : Byte) (s : State) : Result := branchIf (!s.flagZ) disp s

/-- BPL (R240): taken if N == 0. -/
def execBpl (disp : Byte) (s : State) : Result := branchIf (!s.flagN) disp s

/-- BVC (R241): taken if V == 0. -/
def execBvc (disp : Byte) (s : State) : Result := branchIf (!s.flagV) disp s

/-- BVS (R242): taken if V == 1. -/
def execBvs (disp : Byte) (s : State) : Result := branchIf s.flagV disp s

end Sys2Proof.Machine
end

