-- ==== Sys2Proof/Machine/FlagsSystem.lean ====
section
/-! DEFINITION. Flag, no-operation and halt instructions (46_flags_system.md rules R250 to R258). -/

namespace Sys2Proof.Machine

/-- CLC (R250): `C <- 0`. -/
def execClc (s : State) : Result := .next (s.setC false)

/-- CLD (R251): `D <- 0`. -/
def execCld (s : State) : Result := .next (s.setD false)

/-- CLI (R252): `I <- 0`. -/
def execCli (s : State) : Result := .next (s.setI false)

/-- CLV (R253): `V <- 0`. -/
def execClv (s : State) : Result := .next (s.setV false)

/-- SEC (R254): `C <- 1`. -/
def execSec (s : State) : Result := .next (s.setC true)

/-- SED (R255): `D <- 1`. -/
def execSed (s : State) : Result := .next (s.setD true)

/-- SEI (R256): `I <- 1`. -/
def execSei (s : State) : Result := .next (s.setI true)

/-- NOP (R257): nothing; PC has already advanced. -/
def execNop (s : State) : Result := .next s

/-- BRK (R258): the engine becomes `Halted`; nothing is pushed, no flag is written, PC stays at `a0 + 1`. -/
def execBrk (s : State) : Result := .next (s.halt)

end Sys2Proof.Machine
end

