-- ==== Sys2Proof/Machine/IncDecShift.lean ====
section
/-! DEFINITION. Increment, decrement, shift and rotate instructions (44_incdec_shift.md rules R210 to R219). -/

namespace Sys2Proof.Machine

/-- INC (R210): `r <- (v + 1) mod 256; Store(r); setNZ(r)`. -/
def increment (t : Target) (s : State) : Result := modify t (fun v _ => (v + 1, State.setNZ (v + 1))) s

/-- DEC (R213). -/
def decrement (t : Target) (s : State) : Result := modify t (fun v _ => (v - 1, State.setNZ (v - 1))) s

/-- The flags of a shift: C is the bit shifted out, N and Z follow the result. -/
def shiftFlags (r : Byte) (out : Bool) (s : State) : State := (s.setC out).setNZ r

/-- ASL (R216). -/
def shiftLeft (t : Target) (s : State) : Result := modify t (fun v _ => (v <<< 1, shiftFlags (v <<< 1) (v.getLsbD 7))) s

/-- LSR (R217). -/
def shiftRight (t : Target) (s : State) : Result := modify t (fun v _ => (v >>> 1, shiftFlags (v >>> 1) (v.getLsbD 0))) s

/-- ROL (R218): the old C enters at bit 0. -/
def rotateLeft (t : Target) (s : State) : Result :=
  modify t (fun v cin => ((v <<< 1) ||| bitZero cin, shiftFlags ((v <<< 1) ||| bitZero cin) (v.getLsbD 7))) s

/-- ROR (R219): the old C enters at bit 7. -/
def rotateRight (t : Target) (s : State) : Result :=
  modify t (fun v cin => ((v >>> 1) ||| bitSeven cin, shiftFlags ((v >>> 1) ||| bitSeven cin) (v.getLsbD 0))) s

/-- INX (R211). -/
def execInx (s : State) : Result := .next ((s.setX (s.x + 1)).setNZ (s.x + 1))

/-- INY (R212). -/
def execIny (s : State) : Result := .next ((s.setY (s.y + 1)).setNZ (s.y + 1))

/-- DEX (R214). -/
def execDex (s : State) : Result := .next ((s.setX (s.x - 1)).setNZ (s.x - 1))

/-- DEY (R215). -/
def execDey (s : State) : Result := .next ((s.setY (s.y - 1)).setNZ (s.y - 1))

/-! INC -/

def execIncZp (zp : Byte) (s : State) : Result := increment (.memory (.zeroPage zp)) s
def execIncZpX (zp : Byte) (s : State) : Result := increment (.memory (.zeroPageX zp)) s
def execIncAbs (addr : Addr) (s : State) : Result := increment (.memory (.absolute addr)) s
def execIncAbsX (addr : Addr) (s : State) : Result := increment (.memory (.absoluteX addr)) s

/-! DEC -/

def execDecZp (zp : Byte) (s : State) : Result := decrement (.memory (.zeroPage zp)) s
def execDecZpX (zp : Byte) (s : State) : Result := decrement (.memory (.zeroPageX zp)) s
def execDecAbs (addr : Addr) (s : State) : Result := decrement (.memory (.absolute addr)) s
def execDecAbsX (addr : Addr) (s : State) : Result := decrement (.memory (.absoluteX addr)) s

/-! ASL -/

def execAslAcc (s : State) : Result := shiftLeft .accumulator s
def execAslZp (zp : Byte) (s : State) : Result := shiftLeft (.memory (.zeroPage zp)) s
def execAslZpX (zp : Byte) (s : State) : Result := shiftLeft (.memory (.zeroPageX zp)) s
def execAslAbs (addr : Addr) (s : State) : Result := shiftLeft (.memory (.absolute addr)) s
def execAslAbsX (addr : Addr) (s : State) : Result := shiftLeft (.memory (.absoluteX addr)) s

/-! LSR -/

def execLsrAcc (s : State) : Result := shiftRight .accumulator s
def execLsrZp (zp : Byte) (s : State) : Result := shiftRight (.memory (.zeroPage zp)) s
def execLsrZpX (zp : Byte) (s : State) : Result := shiftRight (.memory (.zeroPageX zp)) s
def execLsrAbs (addr : Addr) (s : State) : Result := shiftRight (.memory (.absolute addr)) s
def execLsrAbsX (addr : Addr) (s : State) : Result := shiftRight (.memory (.absoluteX addr)) s

/-! ROL -/

def execRolAcc (s : State) : Result := rotateLeft .accumulator s
def execRolZp (zp : Byte) (s : State) : Result := rotateLeft (.memory (.zeroPage zp)) s
def execRolZpX (zp : Byte) (s : State) : Result := rotateLeft (.memory (.zeroPageX zp)) s
def execRolAbs (addr : Addr) (s : State) : Result := rotateLeft (.memory (.absolute addr)) s
def execRolAbsX (addr : Addr) (s : State) : Result := rotateLeft (.memory (.absoluteX addr)) s

/-! ROR -/

def execRorAcc (s : State) : Result := rotateRight .accumulator s
def execRorZp (zp : Byte) (s : State) : Result := rotateRight (.memory (.zeroPage zp)) s
def execRorZpX (zp : Byte) (s : State) : Result := rotateRight (.memory (.zeroPageX zp)) s
def execRorAbs (addr : Addr) (s : State) : Result := rotateRight (.memory (.absolute addr)) s
def execRorAbsX (addr : Addr) (s : State) : Result := rotateRight (.memory (.absoluteX addr)) s

end Sys2Proof.Machine
end

