-- ==== Sys2Proof/Machine/LoadStore.lean ====
section
/-! DEFINITION. Load and store instructions (41_load_store.md rules R160 to R165). -/

namespace Sys2Proof.Machine

/-- LDA (R160): `v <- Operand(opd); A <- v; setNZ(v)`. -/
def loadA (src : Source) (s : State) : Result := withSource src (fun v t => (t.setA v).setNZ v) s

/-- LDX (R161). -/
def loadX (src : Source) (s : State) : Result := withSource src (fun v t => (t.setX v).setNZ v) s

/-- LDY (R162). -/
def loadY (src : Source) (s : State) : Result := withSource src (fun v t => (t.setY v).setNZ v) s

/-- STA (R163): `MemWrite(a, 1, A)`, no flag. -/
def storeA (m : MemOperand) (s : State) : Result := storeReg m State.a s

/-- STX (R164). -/
def storeX (m : MemOperand) (s : State) : Result := storeReg m State.x s

/-- STY (R165). -/
def storeY (m : MemOperand) (s : State) : Result := storeReg m State.y s

/-! LDA -/

def execLdaImm (v : Byte) (s : State) : Result := loadA (.immediate v) s
def execLdaZp (zp : Byte) (s : State) : Result := loadA (.memory (.zeroPage zp)) s
def execLdaZpX (zp : Byte) (s : State) : Result := loadA (.memory (.zeroPageX zp)) s
def execLdaAbs (addr : Addr) (s : State) : Result := loadA (.memory (.absolute addr)) s
def execLdaAbsX (addr : Addr) (s : State) : Result := loadA (.memory (.absoluteX addr)) s
def execLdaAbsY (addr : Addr) (s : State) : Result := loadA (.memory (.absoluteY addr)) s
def execLdaIndX (zp : Byte) (s : State) : Result := loadA (.memory (.indirectX zp)) s
def execLdaIndY (zp : Byte) (s : State) : Result := loadA (.memory (.indirectY zp)) s

/-! LDX -/

def execLdxImm (v : Byte) (s : State) : Result := loadX (.immediate v) s
def execLdxZp (zp : Byte) (s : State) : Result := loadX (.memory (.zeroPage zp)) s
def execLdxZpY (zp : Byte) (s : State) : Result := loadX (.memory (.zeroPageY zp)) s
def execLdxAbs (addr : Addr) (s : State) : Result := loadX (.memory (.absolute addr)) s
def execLdxAbsY (addr : Addr) (s : State) : Result := loadX (.memory (.absoluteY addr)) s

/-! LDY -/

def execLdyImm (v : Byte) (s : State) : Result := loadY (.immediate v) s
def execLdyZp (zp : Byte) (s : State) : Result := loadY (.memory (.zeroPage zp)) s
def execLdyZpX (zp : Byte) (s : State) : Result := loadY (.memory (.zeroPageX zp)) s
def execLdyAbs (addr : Addr) (s : State) : Result := loadY (.memory (.absolute addr)) s
def execLdyAbsX (addr : Addr) (s : State) : Result := loadY (.memory (.absoluteX addr)) s

/-! STA -/

def execStaZp (zp : Byte) (s : State) : Result := storeA (.zeroPage zp) s
def execStaZpX (zp : Byte) (s : State) : Result := storeA (.zeroPageX zp) s
def execStaAbs (addr : Addr) (s : State) : Result := storeA (.absolute addr) s
def execStaAbsX (addr : Addr) (s : State) : Result := storeA (.absoluteX addr) s
def execStaAbsY (addr : Addr) (s : State) : Result := storeA (.absoluteY addr) s
def execStaIndX (zp : Byte) (s : State) : Result := storeA (.indirectX zp) s
def execStaIndY (zp : Byte) (s : State) : Result := storeA (.indirectY zp) s

/-! STX -/

def execStxZp (zp : Byte) (s : State) : Result := storeX (.zeroPage zp) s
def execStxZpY (zp : Byte) (s : State) : Result := storeX (.zeroPageY zp) s
def execStxAbs (addr : Addr) (s : State) : Result := storeX (.absolute addr) s

/-! STY -/

def execStyZp (zp : Byte) (s : State) : Result := storeY (.zeroPage zp) s
def execStyZpX (zp : Byte) (s : State) : Result := storeY (.zeroPageX zp) s
def execStyAbs (addr : Addr) (s : State) : Result := storeY (.absolute addr) s

end Sys2Proof.Machine
end

