-- ==== Sys2Proof/Machine/TransferStack.lean ====
section
/-! DEFINITION. Register transfer and stack instructions (42_transfer_stack.md rules R170 to R179). -/

namespace Sys2Proof.Machine

/-- TAX (R170): `X <- A; setNZ(X)`. -/
def execTax (s : State) : Result := .next ((s.setX s.a).setNZ s.a)

/-- TAY (R171). -/
def execTay (s : State) : Result := .next ((s.setY s.a).setNZ s.a)

/-- TSX (R172). -/
def execTsx (s : State) : Result := .next ((s.setX s.sp).setNZ s.sp)

/-- TXA (R173). -/
def execTxa (s : State) : Result := .next ((s.setA s.x).setNZ s.x)

/-- TXS (R174): the only transfer that writes no flag. -/
def execTxs (s : State) : Result := .next (s.setSP s.x)

/-- TYA (R175). -/
def execTya (s : State) : Result := .next ((s.setA s.y).setNZ s.y)

/-- PHA (R176): `Push(A)`. -/
def execPha (s : State) : Result := .next (s.push s.a)

/-- PHP (R177): `Push(P(1, 1))`, whatever B holds. -/
def execPhp (s : State) : Result := .next (s.push (s.statusByte true true))

/-- PLA (R178): `v <- Pull(); A <- v; setNZ(v)`. -/
def execPla (s : State) : Result := complete (s.pull.map fun p => (p.2.setA p.1).setNZ p.1)

/-- PLP (R179): six flags from the pulled byte; B keeps its value. -/
def execPlp (s : State) : Result := complete (s.pull.map fun p => p.2.loadStatus p.1)

end Sys2Proof.Machine
end

