-- ==== Sys2Proof/Machine/Dispatch.lean ====
section
/-! DEFINITION. The execute phase of every instruction (40_execution_and_addressing.md rule R120, `Execute`): one arm
per row of the opcode table. The state is the one after the instruction's bytes are fetched. -/

namespace Sys2Proof.Machine

def exec (i : Instr) (s : State) : Host.Outcome State Fault Refusal :=
  match i with
  -- LDA (R160)
  | .ldaImm v => Sys2Proof.Machine.execLdaImm v s
  | .ldaZp zp => Sys2Proof.Machine.execLdaZp zp s
  | .ldaZpX zp => Sys2Proof.Machine.execLdaZpX zp s
  | .ldaAbs addr => Sys2Proof.Machine.execLdaAbs addr s
  | .ldaAbsX addr => Sys2Proof.Machine.execLdaAbsX addr s
  | .ldaAbsY addr => Sys2Proof.Machine.execLdaAbsY addr s
  | .ldaIndX zp => Sys2Proof.Machine.execLdaIndX zp s
  | .ldaIndY zp => Sys2Proof.Machine.execLdaIndY zp s
  -- LDX (R161)
  | .ldxImm v => Sys2Proof.Machine.execLdxImm v s
  | .ldxZp zp => Sys2Proof.Machine.execLdxZp zp s
  | .ldxZpY zp => Sys2Proof.Machine.execLdxZpY zp s
  | .ldxAbs addr => Sys2Proof.Machine.execLdxAbs addr s
  | .ldxAbsY addr => Sys2Proof.Machine.execLdxAbsY addr s
  -- LDY (R162)
  | .ldyImm v => Sys2Proof.Machine.execLdyImm v s
  | .ldyZp zp => Sys2Proof.Machine.execLdyZp zp s
  | .ldyZpX zp => Sys2Proof.Machine.execLdyZpX zp s
  | .ldyAbs addr => Sys2Proof.Machine.execLdyAbs addr s
  | .ldyAbsX addr => Sys2Proof.Machine.execLdyAbsX addr s
  -- STA (R163)
  | .staZp zp => Sys2Proof.Machine.execStaZp zp s
  | .staZpX zp => Sys2Proof.Machine.execStaZpX zp s
  | .staAbs addr => Sys2Proof.Machine.execStaAbs addr s
  | .staAbsX addr => Sys2Proof.Machine.execStaAbsX addr s
  | .staAbsY addr => Sys2Proof.Machine.execStaAbsY addr s
  | .staIndX zp => Sys2Proof.Machine.execStaIndX zp s
  | .staIndY zp => Sys2Proof.Machine.execStaIndY zp s
  -- STX (R164)
  | .stxZp zp => Sys2Proof.Machine.execStxZp zp s
  | .stxZpY zp => Sys2Proof.Machine.execStxZpY zp s
  | .stxAbs addr => Sys2Proof.Machine.execStxAbs addr s
  -- STY (R165)
  | .styZp zp => Sys2Proof.Machine.execStyZp zp s
  | .styZpX zp => Sys2Proof.Machine.execStyZpX zp s
  | .styAbs addr => Sys2Proof.Machine.execStyAbs addr s
  -- TAX (R170)
  | .tax => Sys2Proof.Machine.execTax s
  -- TAY (R171)
  | .tay => Sys2Proof.Machine.execTay s
  -- TSX (R172)
  | .tsx => Sys2Proof.Machine.execTsx s
  -- TXA (R173)
  | .txa => Sys2Proof.Machine.execTxa s
  -- TXS (R174)
  | .txs => Sys2Proof.Machine.execTxs s
  -- TYA (R175)
  | .tya => Sys2Proof.Machine.execTya s
  -- PHA (R176)
  | .pha => Sys2Proof.Machine.execPha s
  -- PHP (R177)
  | .php => Sys2Proof.Machine.execPhp s
  -- PLA (R178)
  | .pla => Sys2Proof.Machine.execPla s
  -- PLP (R179)
  | .plp => Sys2Proof.Machine.execPlp s
  -- ADC (R194)
  | .adcImm v => Sys2Proof.Machine.execAdcImm v s
  | .adcZp zp => Sys2Proof.Machine.execAdcZp zp s
  | .adcZpX zp => Sys2Proof.Machine.execAdcZpX zp s
  | .adcAbs addr => Sys2Proof.Machine.execAdcAbs addr s
  | .adcAbsX addr => Sys2Proof.Machine.execAdcAbsX addr s
  | .adcAbsY addr => Sys2Proof.Machine.execAdcAbsY addr s
  | .adcIndX zp => Sys2Proof.Machine.execAdcIndX zp s
  | .adcIndY zp => Sys2Proof.Machine.execAdcIndY zp s
  -- SBC (R195)
  | .sbcImm v => Sys2Proof.Machine.execSbcImm v s
  | .sbcZp zp => Sys2Proof.Machine.execSbcZp zp s
  | .sbcZpX zp => Sys2Proof.Machine.execSbcZpX zp s
  | .sbcAbs addr => Sys2Proof.Machine.execSbcAbs addr s
  | .sbcAbsX addr => Sys2Proof.Machine.execSbcAbsX addr s
  | .sbcAbsY addr => Sys2Proof.Machine.execSbcAbsY addr s
  | .sbcIndX zp => Sys2Proof.Machine.execSbcIndX zp s
  | .sbcIndY zp => Sys2Proof.Machine.execSbcIndY zp s
  -- AND (R196)
  | .andImm v => Sys2Proof.Machine.execAndImm v s
  | .andZp zp => Sys2Proof.Machine.execAndZp zp s
  | .andZpX zp => Sys2Proof.Machine.execAndZpX zp s
  | .andAbs addr => Sys2Proof.Machine.execAndAbs addr s
  | .andAbsX addr => Sys2Proof.Machine.execAndAbsX addr s
  | .andAbsY addr => Sys2Proof.Machine.execAndAbsY addr s
  | .andIndX zp => Sys2Proof.Machine.execAndIndX zp s
  | .andIndY zp => Sys2Proof.Machine.execAndIndY zp s
  -- ORA (R197)
  | .oraImm v => Sys2Proof.Machine.execOraImm v s
  | .oraZp zp => Sys2Proof.Machine.execOraZp zp s
  | .oraZpX zp => Sys2Proof.Machine.execOraZpX zp s
  | .oraAbs addr => Sys2Proof.Machine.execOraAbs addr s
  | .oraAbsX addr => Sys2Proof.Machine.execOraAbsX addr s
  | .oraAbsY addr => Sys2Proof.Machine.execOraAbsY addr s
  | .oraIndX zp => Sys2Proof.Machine.execOraIndX zp s
  | .oraIndY zp => Sys2Proof.Machine.execOraIndY zp s
  -- EOR (R198)
  | .eorImm v => Sys2Proof.Machine.execEorImm v s
  | .eorZp zp => Sys2Proof.Machine.execEorZp zp s
  | .eorZpX zp => Sys2Proof.Machine.execEorZpX zp s
  | .eorAbs addr => Sys2Proof.Machine.execEorAbs addr s
  | .eorAbsX addr => Sys2Proof.Machine.execEorAbsX addr s
  | .eorAbsY addr => Sys2Proof.Machine.execEorAbsY addr s
  | .eorIndX zp => Sys2Proof.Machine.execEorIndX zp s
  | .eorIndY zp => Sys2Proof.Machine.execEorIndY zp s
  -- BIT (R199)
  | .bitZp zp => Sys2Proof.Machine.execBitZp zp s
  | .bitAbs addr => Sys2Proof.Machine.execBitAbs addr s
  -- CMP (R200)
  | .cmpImm v => Sys2Proof.Machine.execCmpImm v s
  | .cmpZp zp => Sys2Proof.Machine.execCmpZp zp s
  | .cmpZpX zp => Sys2Proof.Machine.execCmpZpX zp s
  | .cmpAbs addr => Sys2Proof.Machine.execCmpAbs addr s
  | .cmpAbsX addr => Sys2Proof.Machine.execCmpAbsX addr s
  | .cmpAbsY addr => Sys2Proof.Machine.execCmpAbsY addr s
  | .cmpIndX zp => Sys2Proof.Machine.execCmpIndX zp s
  | .cmpIndY zp => Sys2Proof.Machine.execCmpIndY zp s
  -- CPX (R201)
  | .cpxImm v => Sys2Proof.Machine.execCpxImm v s
  | .cpxZp zp => Sys2Proof.Machine.execCpxZp zp s
  | .cpxAbs addr => Sys2Proof.Machine.execCpxAbs addr s
  -- CPY (R202)
  | .cpyImm v => Sys2Proof.Machine.execCpyImm v s
  | .cpyZp zp => Sys2Proof.Machine.execCpyZp zp s
  | .cpyAbs addr => Sys2Proof.Machine.execCpyAbs addr s
  -- INC (R210)
  | .incZp zp => Sys2Proof.Machine.execIncZp zp s
  | .incZpX zp => Sys2Proof.Machine.execIncZpX zp s
  | .incAbs addr => Sys2Proof.Machine.execIncAbs addr s
  | .incAbsX addr => Sys2Proof.Machine.execIncAbsX addr s
  -- INX (R211)
  | .inx => Sys2Proof.Machine.execInx s
  -- INY (R212)
  | .iny => Sys2Proof.Machine.execIny s
  -- DEC (R213)
  | .decZp zp => Sys2Proof.Machine.execDecZp zp s
  | .decZpX zp => Sys2Proof.Machine.execDecZpX zp s
  | .decAbs addr => Sys2Proof.Machine.execDecAbs addr s
  | .decAbsX addr => Sys2Proof.Machine.execDecAbsX addr s
  -- DEX (R214)
  | .dex => Sys2Proof.Machine.execDex s
  -- DEY (R215)
  | .dey => Sys2Proof.Machine.execDey s
  -- ASL (R216)
  | .aslAcc => Sys2Proof.Machine.execAslAcc s
  | .aslZp zp => Sys2Proof.Machine.execAslZp zp s
  | .aslZpX zp => Sys2Proof.Machine.execAslZpX zp s
  | .aslAbs addr => Sys2Proof.Machine.execAslAbs addr s
  | .aslAbsX addr => Sys2Proof.Machine.execAslAbsX addr s
  -- LSR (R217)
  | .lsrAcc => Sys2Proof.Machine.execLsrAcc s
  | .lsrZp zp => Sys2Proof.Machine.execLsrZp zp s
  | .lsrZpX zp => Sys2Proof.Machine.execLsrZpX zp s
  | .lsrAbs addr => Sys2Proof.Machine.execLsrAbs addr s
  | .lsrAbsX addr => Sys2Proof.Machine.execLsrAbsX addr s
  -- ROL (R218)
  | .rolAcc => Sys2Proof.Machine.execRolAcc s
  | .rolZp zp => Sys2Proof.Machine.execRolZp zp s
  | .rolZpX zp => Sys2Proof.Machine.execRolZpX zp s
  | .rolAbs addr => Sys2Proof.Machine.execRolAbs addr s
  | .rolAbsX addr => Sys2Proof.Machine.execRolAbsX addr s
  -- ROR (R219)
  | .rorAcc => Sys2Proof.Machine.execRorAcc s
  | .rorZp zp => Sys2Proof.Machine.execRorZp zp s
  | .rorZpX zp => Sys2Proof.Machine.execRorZpX zp s
  | .rorAbs addr => Sys2Proof.Machine.execRorAbs addr s
  | .rorAbsX addr => Sys2Proof.Machine.execRorAbsX addr s
  -- JMP (R230)
  | .jmpAbs addr => Sys2Proof.Machine.execJmpAbs addr s
  | .jmpInd ptr => Sys2Proof.Machine.execJmpInd ptr s
  -- JSR (R231)
  | .jsr addr => Sys2Proof.Machine.execJsr addr s
  -- RTS (R232)
  | .rts => Sys2Proof.Machine.execRts s
  -- RTI (R233)
  | .rti => Sys2Proof.Machine.execRti s
  -- BCC (R235)
  | .bcc disp => Sys2Proof.Machine.execBcc disp s
  -- BCS (R236)
  | .bcs disp => Sys2Proof.Machine.execBcs disp s
  -- BEQ (R237)
  | .beq disp => Sys2Proof.Machine.execBeq disp s
  -- BMI (R238)
  | .bmi disp => Sys2Proof.Machine.execBmi disp s
  -- BNE (R239)
  | .bne disp => Sys2Proof.Machine.execBne disp s
  -- BPL (R240)
  | .bpl disp => Sys2Proof.Machine.execBpl disp s
  -- BVC (R241)
  | .bvc disp => Sys2Proof.Machine.execBvc disp s
  -- BVS (R242)
  | .bvs disp => Sys2Proof.Machine.execBvs disp s
  -- CLC (R250)
  | .clc => Sys2Proof.Machine.execClc s
  -- CLD (R251)
  | .cld => Sys2Proof.Machine.execCld s
  -- CLI (R252)
  | .cli => Sys2Proof.Machine.execCli s
  -- CLV (R253)
  | .clv => Sys2Proof.Machine.execClv s
  -- SEC (R254)
  | .sec => Sys2Proof.Machine.execSec s
  -- SED (R255)
  | .sed => Sys2Proof.Machine.execSed s
  -- SEI (R256)
  | .sei => Sys2Proof.Machine.execSei s
  -- NOP (R257)
  | .nop => Sys2Proof.Machine.execNop s
  -- BRK (R258)
  | .brk => Sys2Proof.Machine.execBrk s

end Sys2Proof.Machine
end

