-- ==== Sys2Proof/Machine/Fetch.lean ====
section
/-! DEFINITION. Fetching one instruction (40_execution_and_addressing.md rules R120, R124) through the same `read` as
data (20_memory.md rule R74), and placing one for the next fetch. -/

namespace Sys2Proof.Machine

/-- `b <- MemRead(PC, 1); PC <- PC + 1` (rule R120). -/
def fetchByte (s : State) : Option (Byte × State) :=
  (s.read s.pc).map fun p => (p.1, p.2.setPC (p.2.pc + 1))

/-- The next `n` bytes from PC onward, in order. -/
def fetchBytes : Nat → State → Option (List Byte × State)
  | 0, s => some ([], s)
  | n + 1, s => (fetchByte s).bind fun p => (fetchBytes n p.2).map fun q => (p.1 :: q.1, q.2)

/-- What the fetch and decode phases of a step come to. -/
inductive Fetched
  /-- the instruction, and the state after its bytes are fetched -/
  | instr (i : Instr) (s : State)
  /-- the opcode byte has no descriptor: the state after `raise InvalidOpcode` -/
  | invalidOpcode (s : State)
  /-- a fetch from $D010 found no input unit (rule R144) -/
  | awaitsInput

/-- The operand bytes of the opcode `op`, fetched from `s`, and the instruction they complete. -/
def fetchOperands (a0 : Addr) (op : Byte) (d : Descriptor) (s : State) : Fetched :=
  match fetchBytes d.operandCount s with
  | none => .awaitsInput
  | some (operands, t) =>
    match decode (op :: operands) with
    | .ok (i, _) => .instr i t
    | .error _ => .invalidOpcode (t.raiseInvalidOpcode a0 op)

/-- Fetch and decode (rule R120): the opcode byte, its descriptor, then as many operand bytes as the descriptor says.
Where there is no descriptor, `InvalidOpcode` is raised and no operand byte is fetched (60_exceptions.md rule R322). -/
def fetchInstr (s : State) : Fetched :=
  match fetchByte s with
  | none => .awaitsInput
  | some (op, s1) =>
    match descriptor op with
    | some d => fetchOperands s.pc op d s1
    | none => .invalidOpcode (s1.raiseInvalidOpcode s.pc op)

/-- Bytes placed in `Store` from an address on, whatever the policy of the addresses. -/
def placeBytes : List Byte → Addr → State → State
  | [], _, s => s
  | b :: rest, a, s => placeBytes rest (a + 1) (s.putByte a b)

/-- The three bytes of a table word placed where the next step fetches: in `Store` from PC on, with the engine
running (log 11). -/
def placeTableWord (nbits w : Nat) (s : State) : State :=
  (placeBytes (tableBytes nbits w) s.pc s).setEngine .running

end Sys2Proof.Machine
end

