-- ==== Sys2Proof/Machine/Step.lean ====
section
/-! DEFINITION. One CPU step = one instruction (40_execution_and_addressing.md rules R120, R144; 60_exceptions.md rule
R325). -/

namespace Sys2Proof.Machine

/-- One call of the step function. In `Halted` and `Faulted` it returns the state unchanged without any access (rule
R325). While running it fetches, decodes and executes one instruction; a step that awaits input leaves the state
unchanged (rule R144). -/
def step (s : State) : Host.Outcome State Fault Refusal :=
  match s.engine with
  | .running =>
    match fetchInstr s with
    | .instr i t => settle s (exec i t)
    | .invalidOpcode t => .next t
    | .awaitsInput => .next s
  | .halted => .next s
  | .faulted _ _ _ => .next s

/-- `s` with the instruction of a table word stored where `step` fetches its next instruction. -/
def State.withFetchWord (s : State) (nbits w : Nat) : State := placeTableWord nbits w s

end Sys2Proof.Machine
end

