-- ==== Sys2Proof/Machine/AsmText.lean ====
section
/-! DEFINITION. The assembly language as text: lines, comments, labels, names, numbers, terms and operand forms
(48_assembler.md rules R272 to R279). -/

namespace Sys2Proof.Machine

/-- Source text and the pieces cut from it. -/
abbrev Text := List Char

/-! ### Characters -/

def isBlank (c : Char) : Bool := c == ' ' || c == '\t'

/-- The upper-case form of a letter a to z; every other character is itself. -/
def upperChar (c : Char) : Char :=
  if 'a'.toNat ≤ c.toNat && c.toNat ≤ 'z'.toNat then Char.ofNat (c.toNat - 32) else c

def isIdentStart (c : Char) : Bool :=
  ('A'.toNat ≤ (upperChar c).toNat && (upperChar c).toNat ≤ 'Z'.toNat) || c == '_'

def isDecimal (c : Char) : Bool := '0'.toNat ≤ c.toNat && c.toNat ≤ '9'.toNat

def isIdentChar (c : Char) : Bool := isIdentStart c || isDecimal c

/-- An IDENT is `[A-Za-z_][A-Za-z0-9_]*` (rule R275). -/
def isIdent : Text → Bool
  | [] => false
  | c :: rest => isIdentStart c && rest.all isIdentChar

/-- Case-insensitive comparison with a word written in capitals (rule R276). -/
def isWord (t : Text) (capitals : String) : Bool := t.map upperChar == capitals.toList

/-! ### Lines -/

/-- Lines are split at LF; a CR immediately before an LF is dropped (rule R272). -/
def splitLines : Text → List Text
  | [] => [[]]
  | '\r' :: '\n' :: rest => [] :: splitLines rest
  | '\n' :: rest => [] :: splitLines rest
  | c :: rest =>
    match splitLines rest with
    | line :: lines => (c :: line) :: lines
    | [] => [[c]]

/-- Everything from the first `;` is removed (rule R273). -/
def stripComment (line : Text) : Text := line.takeWhile (· != ';')

/-! ### Mnemonics and directives -/

/-- The 56 mnemonics with their names (rule R97). -/
def mnemonicNames : List (Mnemonic × String) :=
  [(.lda, "LDA"), (.ldx, "LDX"), (.ldy, "LDY"), (.sta, "STA"), (.stx, "STX"), (.sty, "STY"),
   (.tax, "TAX"), (.tay, "TAY"), (.tsx, "TSX"), (.txa, "TXA"), (.txs, "TXS"), (.tya, "TYA"),
   (.pha, "PHA"), (.php, "PHP"), (.pla, "PLA"), (.plp, "PLP"), (.adc, "ADC"), (.sbc, "SBC"),
   (.and, "AND"), (.ora, "ORA"), (.eor, "EOR"), (.bit, "BIT"), (.cmp, "CMP"), (.cpx, "CPX"),
   (.cpy, "CPY"), (.inc, "INC"), (.inx, "INX"), (.iny, "INY"), (.dec, "DEC"), (.dex, "DEX"),
   (.dey, "DEY"), (.asl, "ASL"), (.lsr, "LSR"), (.rol, "ROL"), (.ror, "ROR"), (.jmp, "JMP"),
   (.jsr, "JSR"), (.rts, "RTS"), (.rti, "RTI"), (.bcc, "BCC"), (.bcs, "BCS"), (.beq, "BEQ"),
   (.bmi, "BMI"), (.bne, "BNE"), (.bpl, "BPL"), (.bvc, "BVC"), (.bvs, "BVS"), (.clc, "CLC"),
   (.cld, "CLD"), (.cli, "CLI"), (.clv, "CLV"), (.sec, "SEC"), (.sed, "SED"), (.sei, "SEI"),
   (.nop, "NOP"), (.brk, "BRK")]

/-- The mnemonic a word names, in any case (rule R276). -/
def mnemonicOf (word : Text) : Option Mnemonic := (mnemonicNames.find? (fun p => isWord word p.2)).map (·.1)

/-- The three directives (rules R276, R284). -/
inductive Directive
  | org
  | byte
  | word
  deriving DecidableEq, Repr

def directiveOf (w : Text) : Option Directive :=
  if isWord w ".ORG" then some .org
  else if isWord w ".BYTE" then some .byte
  else if isWord w ".WORD" then some .word
  else none

/-! ### The parts of a line -/

/-- A line taken apart (rule R274): its label, its word (empty where there is no statement), its operand. -/
structure SourceLine where
  label : Option Text
  word : Text
  operand : Text
  deriving DecidableEq, Repr

/-- The colon form of rule R274: blanks, an IDENT, a colon; the label and the text after the colon. -/
def colonLabel (s : Text) : Option (Text × Text) :=
  let t := s.dropWhile isBlank
  let name := t.takeWhile isIdentChar
  match t.dropWhile isIdentChar with
  | ':' :: rest => if isIdent name then some (name, rest) else none
  | _ => none

/-- The leading-column form of rule R274: the line begins with a token that is an IDENT and no mnemonic (no directive
is an IDENT). -/
def columnLabel (s : Text) : Option (Text × Text) :=
  let token := s.takeWhile (fun c => !isBlank c)
  if isIdent token && (mnemonicOf token).isNone then some (token, s.dropWhile (fun c => !isBlank c)) else none

/-- The statement part of a line: its first token, and the rest with every space and tab removed (rule R274). -/
def statementOf (label : Option Text) (s : Text) : SourceLine :=
  let t := s.dropWhile isBlank
  { label := label
    word := t.takeWhile (fun c => !isBlank c)
    operand := (t.dropWhile (fun c => !isBlank c)).filter (fun c => !isBlank c) }

/-- `Parse` (rule R274), after comment removal. -/
def parseLine (line : Text) : SourceLine :=
  let s := stripComment line
  match colonLabel s with
  | some (name, rest) => statementOf (some name) rest
  | none =>
    match columnLabel s with
    | some (name, rest) => statementOf (some name) rest
    | none => statementOf none s

/-- A label may not be named like a mnemonic or like A, X, Y, in any case (rule R275). -/
def labelNameOk (name : Text) : Bool :=
  (mnemonicOf name).isNone && !isWord name "A" && !isWord name "X" && !isWord name "Y"

/-! ### Numbers, terms, operand forms -/

/-- The value of a digit in bases up to sixteen. -/
def digitValue (c : Char) : Option Nat :=
  let u := (upperChar c).toNat
  if isDecimal c then some (c.toNat - '0'.toNat)
  else if 'A'.toNat ≤ u && u ≤ 'F'.toNat then some (u - 'A'.toNat + 10)
  else none

/-- The value of a string of digits of a base, after `acc`. -/
def digitsValue (base : Nat) : Nat → Text → Option Nat
  | acc, [] => some acc
  | acc, c :: rest =>
    match digitValue c with
    | some d => if d < base then digitsValue base (acc * base + d) rest else none
    | none => none

/-- One or more digits whose value does not exceed $FFFF (rule R277). -/
def numberIn (base : Nat) (digits : Text) : Option Nat :=
  match digits with
  | [] => none
  | _ => (digitsValue base 0 digits).filter (fun v => decide (v ≤ 0xFFFF))

/-- A number of rule R277: `$` hexadecimal, `%` binary, else decimal. -/
def parseNumber : Text → Option Nat
  | '$' :: digits => numberIn 16 digits
  | '%' :: digits => numberIn 2 digits
  | digits => numberIn 10 digits

/-- A term is a number or a label reference; there are no operators (rule R278). -/
inductive Term
  | number (v : Nat)
  | label (name : Text)
  deriving DecidableEq, Repr

def parseTerm (t : Text) : Option Term :=
  if isIdent t then some (.label t) else (parseNumber t).map .number

/-- The operand forms of rule R279, by their form names. -/
inductive OperandForm
  | empty
  | accA
  | imm (t : Term)
  | indX (t : Term)
  | indY (t : Term)
  | ind (t : Term)
  | idxX (t : Term)
  | idxY (t : Term)
  | bare (t : Term)
  deriving DecidableEq, Repr

/-- The term of an operand form, where it has one. -/
def operandTerm : OperandForm → Option Term
  | .empty | .accA => none
  | .imm t | .indX t | .indY t | .ind t | .idxX t | .idxY t | .bare t => some t

/-- The text before a suffix written in capitals, where the text ends with it in either case. -/
def beforeSuffix (suffix : String) (t : Text) : Option Text :=
  let n := t.length - suffix.length
  if isWord (t.drop n) suffix then some (t.take n) else none

/-- A parenthesised operand, without its opening parenthesis (rule R279). -/
def parseParenthesised (t : Text) : Option OperandForm :=
  match beforeSuffix ",X)" t with
  | some u => (parseTerm u).map .indX
  | none =>
    match beforeSuffix "),Y" t with
    | some u => (parseTerm u).map .indY
    | none =>
      match beforeSuffix ")" t with
      | some u => (parseTerm u).map .ind
      | none => none

/-- An operand that begins with neither `#` nor a parenthesis (rule R279). -/
def parsePlain (t : Text) : Option OperandForm :=
  match beforeSuffix ",X" t with
  | some u => (parseTerm u).map .idxX
  | none =>
    match beforeSuffix ",Y" t with
    | some u => (parseTerm u).map .idxY
    | none => (parseTerm t).map .bare

/-- The operand form of an operand with its blanks removed; none is `InvalidOperandSyntaxError` (rules R278, R279). -/
def parseOperand (t : Text) : Option OperandForm :=
  match t with
  | [] => some .empty
  | '#' :: u => (parseTerm u).map .imm
  | '(' :: u => parseParenthesised u
  | _ => if isWord t "A" then some .accA else parsePlain t

/-- The pieces of a text between commas. -/
def splitCommas : Text → List Text
  | [] => [[]]
  | ',' :: rest => [] :: splitCommas rest
  | c :: rest =>
    match splitCommas rest with
    | piece :: pieces => (c :: piece) :: pieces
    | [] => [[c]]

/-- One or more terms separated by commas (rule R284). An empty list gives one empty piece, which is no term. -/
def parseTerms (t : Text) : Option (List Term) := (splitCommas t).mapM parseTerm

end Sys2Proof.Machine
end

