-- ==== Sys2Proof/Machine/Assembler.lean ====
section
/-! DEFINITION. The two-pass assembler (48_assembler.md rules R270, R271, R280 to R288): a pure function of the source
text and the origin. -/

namespace Sys2Proof.Machine

/-- `Err(kind, line, cause)` of rule R270; the cause's wording is open (log 12). -/
structure AsmError where
  kind : AsmErrorKind
  line : Nat
  deriving DecidableEq, Repr

/-- The human-readable cause reported with the error (rule R270; log 12). -/
def asmErrorText (e : AsmError) : String := Config.asmErrorCause e.kind e.line

/-- The symbol table: label name to address, in the order of definition (rule R270). -/
abbrev Symbols := List (Text × Nat)

/-- The address of a label, if it is defined. -/
def symbolValue : Symbols → Text → Option Nat
  | [], _ => none
  | (name, v) :: rest, t => if name = t then some v else symbolValue rest t

/-! ### Addressing-mode inference -/

/-- A term whose value is known in pass 1: a number, or a label already defined (rule R280). -/
def knownValue (sym : Symbols) : Term → Option Nat
  | .number v => some v
  | .label name => symbolValue sym name

/-- Whether a term is known and fits in one byte (rule R280). -/
def fitsByte (sym : Symbols) (t : Term) : Bool :=
  match knownValue sym t with
  | some v => decide (v ≤ 0xFF)
  | none => false

/-- The width rule (rule R280): zero page when known and fitting, else absolute, else the one form there is. -/
def chooseWidth (mn : Mnemonic) (t : Term) (zp abs : Mode) (sym : Symbols) : Option Mode :=
  if fitsByte sym t && mn.hasMode zp then some zp
  else if mn.hasMode abs then some abs
  else if mn.hasMode zp then some zp
  else none

/-- A mode, where the mnemonic has it (rule R279). -/
def modeIfHad (mn : Mnemonic) (md : Mode) : Option Mode := if mn.hasMode md then some md else none

/-- `SelectMode` (rules R279, R280, R282): none is `InvalidOperandSyntaxError`. -/
def selectMode (mn : Mnemonic) (form : OperandForm) (sym : Symbols) : Option Mode :=
  match form with
  | .empty => if mn.hasMode .implied then some .implied else modeIfHad mn .accumulator
  | .accA => modeIfHad mn .accumulator
  | .imm _ => modeIfHad mn .immediate
  | .indX _ => modeIfHad mn .indirectX
  | .indY _ => modeIfHad mn .indirectY
  | .ind _ => modeIfHad mn .indirect
  | .idxX t => chooseWidth mn t .zeroPageX .absoluteX sym
  | .idxY t => chooseWidth mn t .zeroPageY .absoluteY sym
  | .bare t => if mn.hasMode .relative then some .relative else chooseWidth mn t .zeroPage .absolute sym

/-! ### Pass 1 -/

/-- What a planned line emits. -/
inductive AsmBody
  | bytes (terms : List Term)
  | words (terms : List Term)
  | instr (mn : Mnemonic) (md : Mode) (operand : Option Term)
  deriving DecidableEq, Repr

/-- The encoded length computed in pass 1 (rules R283, R284). -/
def bodyLength : AsmBody → Nat
  | .bytes terms => terms.length
  | .words terms => 2 * terms.length
  | .instr _ md _ => 1 + md.operandCount

/-- An entry of `Plan` (rule R285): the source line, the address, what it emits. -/
structure PlanItem where
  line : Nat
  addr : Nat
  body : AsmBody
  deriving DecidableEq, Repr

/-- What a line's statement asks of pass 1. -/
inductive AsmStatement
  | nothing
  | moveTo (address : Nat)
  | emit (body : AsmBody)
  deriving DecidableEq, Repr

/-- A value, or an `InvalidOperandSyntaxError`. -/
def orInvalidOperand {α : Type} : Option α → Except AsmErrorKind α
  | some v => .ok v
  | none => .error .invalidOperandSyntaxError

/-- A directive's statement (rule R284). -/
def directiveStatement (d : Directive) (operand : Text) : Except AsmErrorKind AsmStatement :=
  match d with
  | .org => orInvalidOperand ((parseNumber operand).map .moveTo)
  | .byte => orInvalidOperand ((parseTerms operand).map fun ts => .emit (.bytes ts))
  | .word => orInvalidOperand ((parseTerms operand).map fun ts => .emit (.words ts))

/-- An instruction's statement: its operand form, then its mode (rules R279, R280). -/
def instrStatement (mn : Mnemonic) (operand : Text) (sym : Symbols) : Except AsmErrorKind AsmStatement :=
  orInvalidOperand ((parseOperand operand).bind fun form =>
    (selectMode mn form sym).map fun md => .emit (.instr mn md (operandTerm form)))

/-- The statement of a parsed line (rule R285). -/
def lineStatement (l : SourceLine) (sym : Symbols) : Except AsmErrorKind AsmStatement :=
  if l.word = [] then .ok .nothing
  else
    match directiveOf l.word with
    | some d => directiveStatement d l.operand
    | none =>
      match mnemonicOf l.word with
      | some mn => instrStatement mn l.operand sym
      | none => .error .unknownMnemonicError

/-- The label of a line, checked and recorded at the counter (rules R275, R285). -/
def defineLabel (label : Option Text) (pc : Nat) (sym : Symbols) : Except AsmErrorKind Symbols :=
  match label with
  | none => .ok sym
  | some name =>
    if labelNameOk name = false then .error .invalidOperandSyntaxError
    else if (symbolValue sym name).isSome then .error .duplicateLabelError
    else .ok (sym ++ [(name, pc)])

/-- One line of pass 1: the symbol table after it, and what its statement asks. -/
def passOneLine (l : SourceLine) (pc : Nat) (sym : Symbols) : Except AsmErrorKind (Symbols × AsmStatement) :=
  match defineLabel l.label pc sym with
  | .error k => .error k
  | .ok sym' =>
    match lineStatement l sym' with
    | .error k => .error k
    | .ok (.emit body) => if pc + bodyLength body > 65536 then .error .addressOverflowError else .ok (sym', .emit body)
    | .ok st => .ok (sym', st)

/-- `Pass1` (rule R285) over the lines from number `n` on. -/
def passOne : Nat → List Text → Nat → Symbols → Except AsmError (Symbols × List PlanItem)
  | _, [], _, sym => .ok (sym, [])
  | n, line :: lines, pc, sym =>
    match passOneLine (parseLine line) pc sym with
    | .error k => .error ⟨k, n⟩
    | .ok (sym', .nothing) => passOne (n + 1) lines pc sym'
    | .ok (sym', .moveTo address) => passOne (n + 1) lines address sym'
    | .ok (sym', .emit body) =>
      match passOne (n + 1) lines (pc + bodyLength body) sym' with
      | .error e => .error e
      | .ok (final, plan) => .ok (final, ⟨n, pc, body⟩ :: plan)

/-! ### Pass 2 -/

/-- `Value(t)` (rule R286). -/
def termValue (sym : Symbols) : Term → Except AsmErrorKind Nat
  | .number v => .ok v
  | .label name =>
    match symbolValue sym name with
    | some v => .ok v
    | none => .error .unknownLabelError

/-- One byte, in range (rule R281). -/
def byteOf (v : Nat) : Except AsmErrorKind (List Byte) :=
  if v > 0xFF then .error .invalidOperandSyntaxError else .ok [BitVec.ofNat 8 v]

/-- Low byte then high byte (rules R284, R286, R71). -/
def wordOf (v : Nat) : List Byte := [BitVec.ofNat 8 v, BitVec.ofNat 8 (v / 256)]

/-- The bound check of a relative branch (rule R288): integers, no wrap. -/
def branchByte (addr target : Nat) : Except AsmErrorKind (List Byte) :=
  let off : Int := (target : Int) - ((addr : Int) + 2)
  if off < -128 || off > 127 then .error .branchOutOfRangeError else .ok [BitVec.ofInt 8 off]

/-- The operand bytes of an instruction in a mode (rule R286). -/
def operandBytes (md : Mode) (addr v : Nat) : Except AsmErrorKind (List Byte) :=
  match md with
  | .implied | .accumulator => .ok []
  | .relative => branchByte addr v
  | .immediate | .zeroPage | .zeroPageX | .zeroPageY | .indirectX | .indirectY => byteOf v
  | .absolute | .absoluteX | .absoluteY | .indirect => .ok (wordOf v)

/-- The operand's value; an instruction with no term needs none. -/
def operandValue (sym : Symbols) : Option Term → Except AsmErrorKind Nat
  | some t => termValue sym t
  | none => .ok 0

/-- The bytes of one instruction (rule R286). -/
def instrBytes (sym : Symbols) (addr : Nat) (mn : Mnemonic) (md : Mode) (operand : Option Term) :
    Except AsmErrorKind (List Byte) :=
  match opcodeOf mn md with
  | none => .error .invalidOperandSyntaxError
  | some op =>
    match operandValue sym operand with
    | .error k => .error k
    | .ok v =>
      match operandBytes md addr v with
      | .error k => .error k
      | .ok bs => .ok (op :: bs)

/-- The bytes of a list of terms, each turned into bytes by `f`, in order. -/
def termsBytes (sym : Symbols) (f : Nat → Except AsmErrorKind (List Byte)) : List Term → Except AsmErrorKind (List Byte)
  | [] => .ok []
  | t :: rest =>
    match termValue sym t with
    | .error k => .error k
    | .ok v =>
      match f v with
      | .error k => .error k
      | .ok bs =>
        match termsBytes sym f rest with
        | .error k => .error k
        | .ok more => .ok (bs ++ more)

/-- The bytes of a planned line (rule R286). -/
def bodyBytes (sym : Symbols) (addr : Nat) : AsmBody → Except AsmErrorKind (List Byte)
  | .bytes terms => termsBytes sym byteOf terms
  | .words terms => termsBytes sym (fun v => .ok (wordOf v)) terms
  | .instr mn md operand => instrBytes sym addr mn md operand

/-- `Pass2` (rule R286): the concatenation in source order (rule R287); the first error in line order. -/
def passTwo (sym : Symbols) : List PlanItem → Except AsmError (List Byte)
  | [] => .ok []
  | item :: rest =>
    match bodyBytes sym item.addr item.body with
    | .error k => .error ⟨k, item.line⟩
    | .ok bs =>
      match passTwo sym rest with
      | .error e => .error e
      | .ok more => .ok (bs ++ more)

/-! ### The assembler -/

/-- `Ok(bytes, symbols)` of rule R270. -/
structure Assembled where
  bytes : List Byte
  symbols : List (Text × Addr)
  deriving DecidableEq, Repr

/-- `assemble(source, origin)` (rule R270): pass 2 runs only when pass 1 succeeded (rule R286). -/
def assemble (source : Text) (origin : Addr) : Except AsmError Assembled :=
  match passOne 1 (splitLines source) origin.toNat [] with
  | .error e => .error e
  | .ok (sym, plan) =>
    match passTwo sym plan with
    | .error e => .error e
    | .ok bytes => .ok ⟨bytes, sym.map fun p => (p.1, BitVec.ofNat 16 p.2)⟩

end Sys2Proof.Machine
end

