-- ==== Sys2Proof/Machine/Loader.lean ====
section
/-! DEFINITION. The host's side of the block between steps (70_reset_and_hazards.md rules R350 to R352, R355): loading,
launching, registering regions, supplying input. Running and reporting are in Run.lean. -/

namespace Sys2Proof.Machine

/-- `LoadWrite(a, v)` (20_memory.md rule R75): RAM, ROM and default RAM are written; an IO address is refused. -/
def loadWrite (a : Addr) (v : Byte) (s : State) : Option State :=
  match s.policy a with
  | .io => none
  | .ram | .rom => some (s.putByte a v)

/-- Byte i to address `base + i`; a load that reaches an IO address or past $FFFF is refused whole (rules R75, R352). -/
def loadBytes : List Byte → Nat → State → Option State
  | [], _, s => some s
  | b :: rest, a, s => if a < 65536 then (loadWrite (BitVec.ofNat 16 a) b s).bind (loadBytes rest (a + 1)) else none

/-- Why a run does not start (rules R64, R270, R75, R352). -/
inductive LaunchError
  | region (e : RegionError)
  | assembly (e : AsmError)
  | loadRefused
  deriving DecidableEq, Repr

/-- The start address: the caller's, else the ROM base (rule R351). -/
def startAddress : Option Addr → Addr
  | some a => a
  | none => defaultOrigin

/-- Steps 1 to 4 of the boot sequence of rule R352: register the regions, assemble with origin = start, load at start,
reset with PC = start. Step 5 is `loadAndRun` (Run.lean). -/
def launch (regions : List Region) (source : Text) (start : Option Addr) : Except LaunchError State :=
  match registerAll regions [] with
  | .error e => .error (.region e)
  | .ok rs =>
    match assemble source (startAddress start) with
    | .error e => .error (.assembly e)
    | .ok out =>
      match loadBytes out.bytes (startAddress start).toNat { State.resetAt (startAddress start) with regions := rs } with
      | none => .error .loadRefused
      | some s => .ok s

/-- `register_region` called by the host between steps (rules R65, R355). -/
def hostRegister (r : Region) (s : State) : Except RegionError State :=
  match registerRegion r s.regions with
  | .ok rs => .ok { s with regions := rs }
  | .error e => .error e

/-- The host supplies input units (rule R355); after the stream has ended there are none to supply (log 5). -/
def supplyInput (units : List Byte) (s : State) : State :=
  if s.inputEnded then s else { s with input := s.input ++ units }

/-- The host's stream ends (rules R68, R144; log 5). -/
def endInput (s : State) : State := { s with inputEnded := true }

end Sys2Proof.Machine
end

