-- ==== Sys2Proof/Machine/Run.lean ====
section
/-! DEFINITION. A run and its report: step 5 of the boot sequence of 70_reset_and_hazards.md rule R352, "step the engine
until it reaches `Halted` or `Faulted`, then report the terminal state", and the reporting of rule R354. -/

namespace Sys2Proof.Machine

/-- The terminal state reported to the host (rules R326, R354). -/
inductive Report
  | halted
  | invalidOpcode (addr : Addr) (byte : Byte)
  deriving DecidableEq, Repr

/-- The report of a run that has ended; none while the engine is running (rules R325, R326). -/
def endReport (s : State) : Option Report :=
  match s.engine with
  | .running => none
  | .halted => some .halted
  | .faulted .invalidOpcode addr byte => some (.invalidOpcode addr byte)

/-- Whether the completion status of a run that ended is non-zero (rule R354; log 17). -/
def Report.failed : Report → Bool
  | .halted => false
  | .invalidOpcode _ _ => true

/-- `n` calls of the step function. -/
def runSteps : Nat → State → Result
  | 0, s => .next s
  | n + 1, s =>
    match step s with
    | .next t => runSteps n t
    | .fault f => .fault f
    | .refused r => .refused r

/-- Stepping until the engine has ended, then its report and state (rule R352 step 5). The budget bounds the number of
steps; none means that the run has not ended within it (log 19). -/
def runToEnd : Nat → State → Option (Report × State)
  | 0, s => (endReport s).map fun r => (r, s)
  | n + 1, s =>
    match endReport s with
    | some r => some (r, s)
    | none =>
      match step s with
      | .next t => runToEnd n t
      | .fault _ => none
      | .refused _ => none

/-- A run from `s` ends with the report `r` in the state `t`, after however many steps (rule R326). -/
def RunEnds (s : State) (r : Report) (t : State) : Prop := ∃ budget, runToEnd budget s = some (r, t)

/-- How the Loader's work ends: the run did not start, or the engine ended. -/
inductive RunEnd
  | notStarted (e : LaunchError)
  | ended (r : Report) (s : State)
  deriving DecidableEq, Repr

/-- The whole loader contract of rule R352: launch, then run with the input units the host supplies, then the end. -/
def loadAndRun (regions : List Region) (source : Text) (start : Option Addr) (input : List Byte) (budget : Nat) :
    Option RunEnd :=
  match launch regions source start with
  | .error e => some (.notStarted e)
  | .ok s => (runToEnd budget (supplyInput input s)).map fun p => .ended p.1 p.2

/-- Whether the completion status is non-zero (rule R354): every error, before or during the run, makes it so (log 17). -/
def RunEnd.failed : RunEnd → Bool
  | .notStarted _ => true
  | .ended r _ => r.failed

/-- The message of the error that kept a run from starting (rule R354; logs 12, 17). -/
def launchErrorMessage : LaunchError → String
  | .region e => Config.regionErrorMessage e
  | .assembly e => asmErrorText e
  | .loadRefused => Config.loadRefusedMessage

/-- The message the Loader surfaces: the first error's, and none after a successful halt (rule R354). -/
def RunEnd.message : RunEnd → Option String
  | .notStarted e => some (launchErrorMessage e)
  | .ended .halted _ => none
  | .ended (.invalidOpcode addr byte) _ => some (Config.invalidOpcodeMessage addr byte)

end Sys2Proof.Machine
end

