-- ==== Sys2Proof/Safety.lean ====
section
/-! DEFINITION. What counts as a good state and a safe run, in the terms the claims use. -/

namespace Sys2Proof.Machine

/-- The invariant of the machine: `Store`'s list is in canonical form, the region set keeps 20_memory.md rule R65, and
the input position does not pass the units supplied (rule R68). -/
def State.Inv (s : State) : Prop :=
  s.mem.wf = true ∧ regionsWf s.regions = true ∧ s.inputPos ≤ s.input.length

/-- The engine is in one of the two terminal states (60_exceptions.md rule R325). -/
def State.Terminal (s : State) : Prop := s.engine ≠ .running

/-- The engine has not faulted (60_exceptions.md rule R326: a failed end is `Faulted(InvalidOpcode)`). -/
def State.Safe (s : State) : Prop := s.engine = .running ∨ s.engine = .halted

/-- No access made from these states reads $D010 as an IO address, whatever instruction runs. -/
def State.NoConsoleInput (s : State) : Prop := s.policy consoleIn ≠ .io

/-- At least `n` input units are available (20_memory.md rule R68). -/
def State.InputReady (n : Nat) (s : State) : Prop := s.inputPos + n ≤ s.input.length

end Sys2Proof.Machine
end

