-- ==== Sys2Proof/Certificates/Slice0/Obligations.lean ====
section
/-! DEFINITION. The statements for the provers. Each formalises rules of spec/ (named in its docstring) about the
model. `exec i s` is the execute phase: its state `s` is the one after the instruction's bytes are fetched, so `s.pc`
is the address after the instruction. Where the spec leaves a value open (`InitMem`, `IoUnhandledRead`,
`DECIMAL_MODE`, `JMP_IND_WRAP`) a statement holds for every value of it. -/

open Sys2Proof Sys2Proof.Machine

namespace Sys2Proof.Claims

/-- The mnemonics whose every form may write A (10_state.md rule R21; the shifts only in Accumulator mode). -/
def mayWriteA (i : Instr) : Bool :=
  [Mnemonic.lda, .pla, .txa, .tya, .adc, .sbc, .and, .ora, .eor].contains i.mnemonic
    || ([Mnemonic.asl, .lsr, .rol, .ror].contains i.mnemonic && i.mode == .accumulator)

/-- Rule R22. -/
def mayWriteX (i : Instr) : Bool := [Mnemonic.ldx, .tax, .tsx, .inx, .dex].contains i.mnemonic

/-- Rule R23. -/
def mayWriteY (i : Instr) : Bool := [Mnemonic.ldy, .tay, .iny, .dey].contains i.mnemonic

/-- Rule R24. -/
def mayWriteSP (i : Instr) : Bool := [Mnemonic.txs, .pha, .php, .pla, .plp, .jsr, .rts, .rti].contains i.mnemonic

/-- The writers of N and of Z (rule R28: the two rows list the same mnemonics). -/
def mayWriteNZ (i : Instr) : Bool :=
  [Mnemonic.adc, .sbc, .and, .ora, .eor, .bit, .cmp, .cpx, .cpy, .inc, .inx, .iny, .dec, .dex, .dey, .asl, .lsr, .rol,
    .ror, .lda, .ldx, .ldy, .pla, .tax, .tay, .tsx, .txa, .tya, .plp, .rti].contains i.mnemonic

/-- The writers of V (rule R28). -/
def mayWriteV (i : Instr) : Bool := [Mnemonic.adc, .sbc, .bit, .clv, .plp, .rti].contains i.mnemonic

/-- The writers of D (rule R28). -/
def mayWriteD (i : Instr) : Bool := [Mnemonic.cld, .sed, .plp, .rti].contains i.mnemonic

/-- The writers of I (rule R28). -/
def mayWriteI (i : Instr) : Bool := [Mnemonic.cli, .sei, .plp, .rti].contains i.mnemonic

/-- The writers of C (rule R28). -/
def mayWriteC (i : Instr) : Bool :=
  [Mnemonic.adc, .sbc, .cmp, .cpx, .cpy, .asl, .lsr, .rol, .ror, .clc, .sec, .plp, .rti].contains i.mnemonic

/-- The instructions that set PC directly (40_execution_and_addressing.md rule R122). -/
def maySetPC (i : Instr) : Bool :=
  [Mnemonic.jmp, .jsr, .rts, .rti, .bcc, .bcs, .beq, .bmi, .bne, .bpl, .bvc, .bvs].contains i.mnemonic

/-- The instructions that push (10_state.md rule R30). -/
def pushes (i : Instr) : Bool := [Mnemonic.pha, .php, .jsr].contains i.mnemonic

/-- The instructions that write their effective address: the stores, and the RMW forms (rule R139). -/
def storesToOperand (i : Instr) : Bool :=
  [Mnemonic.sta, .stx, .sty, .inc, .dec].contains i.mnemonic
    || ([Mnemonic.asl, .lsr, .rol, .ror].contains i.mnemonic && i.mode != .accumulator)

/-- The byte at `PC + k` is outside the IO regions and is `bs[k]`, for each k: the bytes lie in memory where the next
step fetches. -/
def BytesAtPC (bs : List Byte) (s : State) : Prop :=
  ∀ (k : Nat) (h : k < bs.length),
    s.policy (s.pc + BitVec.ofNat 16 k) ≠ .io ∧ s.byteAt (s.pc + BitVec.ofNat 16 k) = bs[k]

/-- What a shift or rotate makes of a byte and the carry, in numbers: the new byte and the new carry
(44_incdec_shift.md rules R216 to R219). -/
def shifted (mn : Mnemonic) (v : Byte) (cin : Bool) : Option (Byte × Bool) :=
  match mn with
  | .asl => some (BitVec.ofNat 8 (2 * v.toNat), decide (128 ≤ v.toNat))
  | .lsr => some (BitVec.ofNat 8 (v.toNat / 2), decide (v.toNat % 2 = 1))
  | .rol => some (BitVec.ofNat 8 (2 * v.toNat + cin.toNat), decide (128 ≤ v.toNat))
  | .ror => some (BitVec.ofNat 8 (v.toNat / 2 + 128 * cin.toNat), decide (v.toNat % 2 = 1))
  | _ => none

/-- What INC and DEC make of a byte (rules R210, R213). -/
def stepped (mn : Mnemonic) (v : Byte) : Option Byte :=
  match mn with
  | .inc => some (BitVec.ofNat 8 (v.toNat + 1))
  | .dec => some (BitVec.ofNat 8 (v.toNat + 255))
  | _ => none

/-- The condition of a branch (45_control.md rules R235 to R242). -/
def branchCondition (mn : Mnemonic) (s : State) : Option Bool :=
  match mn with
  | .bcc => some (!s.flagC)
  | .bcs => some s.flagC
  | .beq => some s.flagZ
  | .bmi => some s.flagN
  | .bne => some (!s.flagZ)
  | .bpl => some (!s.flagN)
  | .bvc => some (!s.flagV)
  | .bvs => some s.flagV
  | _ => none

/-- The sum of rule R190 outside the signed range. -/
def signedOverflow (a m : Byte) (c : Bool) : Bool :=
  decide (a.toInt + m.toInt + (c.toNat : Int) < -128 ∨ 127 < a.toInt + m.toInt + (c.toNat : Int))

/-- The byte whose two digits are those of `n`, for n below 100. -/
def bcd (n : Nat) : Byte := BitVec.ofNat 8 (16 * (n / 10) + n % 10)

end Sys2Proof.Claims

open Sys2Proof.Claims

/-! ## Encoding -/

/-- R90 to R97: decoding an encoded instruction gives it back, every operand at every value, and what follows is left. -/
def Obligations.DecodeOfEncodeIsTheInstruction : Prop :=
  ∀ (i : Instr) (rest : List Byte), decode (encode i ++ rest) = .ok (i, rest)

/-- R90 to R97: an instruction has one encoding: what was decoded encodes to the bytes it was decoded from. -/
def Obligations.EncodeOfDecodedIsTheBytes : Prop :=
  ∀ (bs rest : List Byte) (i : Instr), decode bs = .ok (i, rest) → bs = encode i ++ rest

/-- R93, R94, R96, R98: the opcode byte selects one descriptor, whose mnemonic, mode and operand count are those of the
instruction decoded, or none, and then the byte is rejected as an invalid opcode. -/
def Obligations.DecoderFollowsTheDescriptorTable : Prop :=
  ∀ op b1 b2 : Byte,
    (∀ d, descriptor op = some d → ∃ i rest, decode [op, b1, b2] = .ok (i, rest) ∧ i.opcode = op ∧
      i.mnemonic = d.mnemonic ∧ i.mode = d.mode ∧ (encode i).length = 1 + d.operandCount ∧
      rest.length + d.operandCount = 2) ∧
    (descriptor op = none → decode [op, b1, b2] = .error (.invalidOpcode op))

/-- R97, R138: every instruction's mode is one its mnemonic has, and a mnemonic has a mode exactly when rule R96's map
has an opcode for the pair. -/
def Obligations.InstructionsHaveTheirMnemonicsModes : Prop :=
  (∀ i : Instr, i.wf = true) ∧ (∀ (mn : Mnemonic) (md : Mode), mn.hasMode md = (opcodeOf mn md).isSome)

/-- R91, R96: a few words written out from the encodings, and the counts of rules R96 and R98. -/
def Obligations.WordsOfTheSpecDecode : Prop :=
  decodeTableWord 16 0x42A9 = some (.ldaImm 0x42) ∧ decodeTableWord 24 0x12348D = some (.staAbs 0x1234) ∧
  decodeTableWord 8 0xAA = some .tax ∧ decodeTableWord 16 0x2071 = some (.adcIndY 0x20) ∧
  decodeTableWord 24 0x10FF6C = some (.jmpInd 0x10FF) ∧ decodeTableWord 16 0xFBD0 = some (.bne 0xFB) ∧
  decodeTableWord 8 0x6A = some .rorAcc ∧ decodeTableWord 8 0x00 = some .brk ∧ decodeTableWord 8 0x02 = none ∧
  ((List.range 256).filter fun n => (descriptor (BitVec.ofNat 8 n)).isSome).length = 151

/-! ## The step -/

/-- R74, R120, R124: when the bytes fetched from PC on are an instruction's, the step is its execute phase in the state
after the fetch; in memory that is not IO the fetch only moves PC past the instruction. That an execute phase which awaits
input makes it a step to the same state (`settle`) is the model's choice (log 6). -/
def Obligations.StepRunsTheDecodedInstruction : Prop :=
  (∀ (s t : State) (i : Instr), s.engine = .running → fetchBytes (encode i).length s = some (encode i, t) →
    step s = settle s (exec i t)) ∧
  (∀ (s : State) (i : Instr), s.engine = .running → BytesAtPC (encode i) s →
    step s = settle s (exec i { s with pc := s.pc + BitVec.ofNat 16 (encode i).length }))

/-- R322: an opcode byte with no descriptor stops the engine with its address and value; PC is past the byte and nothing
else changes beyond the opcode fetch. -/
def Obligations.InvalidOpcodeFaultsTheEngine : Prop :=
  ∀ (s t : State) (op : Byte), s.engine = .running → fetchByte s = some (op, t) → descriptor op = none →
    step s = .next { t with engine := .faulted .invalidOpcode s.pc op } ∧ t.pc = s.pc + 1 ∧
    (s.policy s.pc ≠ .io → t = { s with pc := s.pc + 1 })

/-- R325: in `Halted` and `Faulted` a call of the step function returns the state unchanged. -/
def Obligations.TerminalStatesDoNotStep : Prop :=
  ∀ s : State, s.engine ≠ .running → step s = .next s

/-- The step function always answers a next state: the model's choice (log 6), since by R144 (b) there is no step while
input is awaited. And no meaning refuses: R144 has no refusal outcome. -/
def Obligations.StepAlwaysAnswersAState : Prop :=
  (∀ s : State, ∃ t, step s = .next t) ∧ (∀ (i : Instr) (s : State) (r : Refusal), exec i s ≠ .refused r)

/-- R68, R144: an instruction that awaits input has no step: the state is unchanged; and it awaits only where $D010 is an
IO address with no unit available. That "no step" is a step to the same state is the model's choice (log 6). -/
def Obligations.AwaitedInputLeavesTheStateUnchanged : Prop :=
  (∀ s : State, s.engine = .running → fetchInstr s = .awaitsInput → step s = .next s) ∧
  (∀ (s t : State) (i : Instr), s.engine = .running → fetchInstr s = .instr i t → exec i t = .fault .inputAwaited →
    step s = .next s) ∧
  (∀ (i : Instr) (s : State), exec i s = .fault .inputAwaited →
    s.policy consoleIn = .io ∧ s.input.length ≤ s.inputPos)

/-- R124, R144: no execute phase reads $D010 more than once, so every instruction completes when one unit is available,
or when $D010 is no IO address; and a running step with two units available executes an instruction or faults. -/
def Obligations.EveryInstructionCompletesWithInput : Prop :=
  (∀ (i : Instr) (s : State), (s.InputReady 1 ∨ s.NoConsoleInput) → ∃ t, exec i s = .next t) ∧
  (∀ s : State, s.engine = .running → (s.InputReady 2 ∨ s.NoConsoleInput) →
    (∃ i t u, fetchInstr s = .instr i t ∧ exec i t = .next u ∧ step s = .next u) ∨
    (∃ t, fetchInstr s = .invalidOpcode t ∧ step s = .next t))

/-- R68, R144, R160: a step at `LDA $D010` takes the next input unit into A, or waits. That waiting is a step to the same
state is the model's choice (log 6). -/
def Obligations.LoadFromTheConsoleTakesOneUnit : Prop :=
  ∀ s : State, s.engine = .running → s.policy consoleIn = .io → BytesAtPC (encode (.ldaAbs consoleIn)) s →
    (∀ u, s.input[s.inputPos]? = some u → step s = .next { s with
      a := u, flagZ := u == 0, flagN := u.getLsbD 7, pc := s.pc + 3, inputPos := s.inputPos + 1 }) ∧
    (s.input.length ≤ s.inputPos → step s = .next s)

/-! ## Memory -/

/-- R55, R57, R61, R68, R70: what a read answers and changes, by the policy of the address. The counter of draws in the
last clause is the model's own (log 4): R70 says only that each draw is afresh. -/
def Obligations.ReadFollowsThePolicy : Prop :=
  ∀ (s : State) (a : Addr),
    (regionOf s.regions a = none → s.read a = some (s.byteAt a, s)) ∧
    (s.policy a = .ram → s.read a = some (s.byteAt a, s)) ∧
    (s.policy a = .rom → s.read a = some (s.byteAt a, s)) ∧
    (s.policy a = .io → a = consoleIn → ∀ u, s.input[s.inputPos]? = some u →
      s.read a = some (u, { s with inputPos := s.inputPos + 1 })) ∧
    (s.policy a = .io → a = consoleIn → s.input.length ≤ s.inputPos → s.read a = none) ∧
    (s.policy a = .io → a ≠ consoleIn →
      s.read a = some (Config.ioUnhandledRead s.ioDraws, { s with ioDraws := s.ioDraws + 1 }))

/-- R56, R58, R60, R61, R69, R70: what a write changes, by the policy of the address. -/
def Obligations.WriteFollowsThePolicy : Prop :=
  ∀ (s : State) (a : Addr) (v : Byte),
    (regionOf s.regions a = none → s.write a v = s.putByte a v) ∧
    (s.policy a = .ram → s.write a v = s.putByte a v) ∧
    (s.policy a = .rom → s.write a v = s) ∧
    (s.policy a = .io → a = consoleOut → s.write a v = { s with output := s.output ++ [v] }) ∧
    (s.policy a = .io → a ≠ consoleOut → s.write a v = s)

/-- R56, R78: a RAM byte reads as the value last written to it, and a write changes no other byte. -/
def Obligations.ReadReturnsTheLastWrite : Prop :=
  ∀ (s : State) (a : Addr) (v : Byte),
    (s.policy a = .ram → (s.write a v).read a = some (v, s.write a v)) ∧
    (∀ b : Addr, b ≠ a → (s.write a v).byteAt b = s.byteAt b)

/-- R54, R65: in a registered set at most one region contains an address, and registration keeps that so. -/
def Obligations.RegionsStayDisjoint : Prop :=
  (∀ (rs : List Region) (r q : Region) (a : Addr), regionsWf rs = true → r ∈ rs → q ∈ rs →
    regionContains r a = true → regionContains q a = true → r = q) ∧
  (∀ new rs rs' : List Region, regionsWf rs = true → registerAll new rs = .ok rs' → regionsWf rs' = true)

/-- R64: registration fails with OutOfBoundsError first, then with OverlapError if the new range intersects a region,
else it adds the region. -/
def Obligations.RegistrationChecksBoundsThenOverlap : Prop :=
  ∀ (r : Region) (rs : List Region), regionsWf rs = true →
    (r.length = 0 ∨ 65536 < r.base.toNat + r.length → registerRegion r rs = .error .outOfBoundsError) ∧
    (r.length ≠ 0 → r.base.toNat + r.length ≤ 65536 →
      (∃ q ∈ rs, ∃ a, regionContains r a = true ∧ regionContains q a = true) →
      registerRegion r rs = .error .overlapError) ∧
    (r.length ≠ 0 → r.base.toNat + r.length ≤ 65536 →
      (∀ q ∈ rs, ∀ a, ¬ (regionContains r a = true ∧ regionContains q a = true)) →
      registerRegion r rs = .ok (rs ++ [r]))

/-- R62: the default memory map, address by address. -/
def Obligations.DefaultMapOfTheSpec : Prop :=
  regionsWf defaultRegions = true ∧
  ∀ a : Addr, policyAt defaultRegions a =
    if a.toNat < 0xA000 then .ram else if a.toNat < 0xC000 then .rom else if a.toNat < 0xD000 then .ram
    else if a.toNat < 0xE000 then .io else .rom

/-! ## Reset and invariants -/

/-- R38, R39: the register file and engine after reset with the start address the loader supplies, the output stream
empty, the input stream at its start, and memory at `InitMem`. That `State.reset` takes the default start address, $A000,
is the model's choice (log 7). -/
def Obligations.ResetStateOfTheSpec : Prop :=
  (∀ start : Addr,
    let s := State.resetAt start
    s.a = 0x00 ∧ s.x = 0x00 ∧ s.y = 0x00 ∧ s.sp = 0xFF ∧ s.pc = start ∧ s.flagN = false ∧ s.flagV = false ∧
    s.flagB = false ∧ s.flagD = false ∧ s.flagI = true ∧ s.flagZ = false ∧ s.flagC = false ∧ s.engine = .running ∧
    s.output = [] ∧ s.inputPos = 0 ∧ ∀ a : Addr, s.byteAt a = Config.initMem a.toNat) ∧
  State.reset = State.resetAt 0xA000

/-- R36, 00_scope.md R9: no step changes the region set, the two open parameters, or the host's input stream itself. -/
def Obligations.StepsKeepTheLaunchParameters : Prop :=
  ∀ s t : State, step s = .next t →
    t.regions = s.regions ∧ t.decimalMode = s.decimalMode ∧ t.jmpIndWrap = s.jmpIndWrap ∧ t.input = s.input ∧
    t.inputEnded = s.inputEnded

/-- R39, R62, R65: the invariant holds after reset. The canonical form of `Store` is the model's (log 3), and so is the
default layout as the reset value of the region set (log 8). -/
def Obligations.ResetMeetsTheInvariant : Prop := State.reset.Inv

/-- R53, R65, R68: every step keeps the invariant: `Store` stays in canonical form, the regions stay disjoint and in
bounds, and the input position never passes the units supplied. -/
def Obligations.EveryStepKeepsTheInvariant : Prop :=
  ∀ s t : State, s.Inv → step s = .next t → t.Inv

/-- R58, R76, R80: no step of any program changes a byte of `Store` outside RAM: ROM is never modified. -/
def Obligations.StepsNeverChangeRom : Prop :=
  ∀ (s t : State) (a : Addr), s.policy a ≠ .ram → step s = .next t → t.byteAt a = s.byteAt a

/-- R68, R69, R124: a step appends at most one unit to the output stream and takes at most two from the input. -/
def Obligations.StepsAdvanceTheStreams : Prop :=
  ∀ s t : State, step s = .next t →
    (∃ new, t.output = s.output ++ new ∧ new.length ≤ 1) ∧ s.inputPos ≤ t.inputPos ∧ t.inputPos ≤ s.inputPos + 2

/-- R29: no instruction writes B, so no step changes it. -/
def Obligations.NoStepWritesTheBreakFlag : Prop :=
  ∀ s t : State, step s = .next t → t.flagB = s.flagB

/-! ## Frames -/

/-- R21 to R24: only the instructions each rule lists write A, X, Y, SP. -/
def Obligations.OnlyListedInstructionsWriteARegister : Prop :=
  ∀ (i : Instr) (s t : State), exec i s = .next t →
    (mayWriteA i = false → t.a = s.a) ∧ (mayWriteX i = false → t.x = s.x) ∧ (mayWriteY i = false → t.y = s.y) ∧
    (mayWriteSP i = false → t.sp = s.sp)

/-- R28, R29: only the instructions rule R28 lists for a flag write it; B is written by none. -/
def Obligations.OnlyListedInstructionsWriteAFlag : Prop :=
  ∀ (i : Instr) (s t : State), exec i s = .next t →
    (mayWriteNZ i = false → t.flagN = s.flagN ∧ t.flagZ = s.flagZ) ∧ (mayWriteV i = false → t.flagV = s.flagV) ∧
    t.flagB = s.flagB ∧ (mayWriteD i = false → t.flagD = s.flagD) ∧ (mayWriteI i = false → t.flagI = s.flagI) ∧
    (mayWriteC i = false → t.flagC = s.flagC)

/-- R122, R32, R258: only jumps, calls, returns and branches leave PC elsewhere than after the instruction, and only BRK
changes the engine state. -/
def Obligations.OnlyControlInstructionsWritePcOrEngine : Prop :=
  ∀ (i : Instr) (s t : State), exec i s = .next t →
    (maySetPC i = false → t.pc = s.pc) ∧ (i ≠ .brk → t.engine = s.engine)

/-- R124, R139: an instruction that neither stores to its operand nor pushes leaves every byte of `Store` and the output
as they were. -/
def Obligations.OtherInstructionsLeaveMemory : Prop :=
  ∀ (i : Instr) (s t : State), exec i s = .next t → storesToOperand i = false → pushes i = false →
    (∀ a : Addr, t.byteAt a = s.byteAt a) ∧ t.output = s.output

/-- R124, R139: a store or RMW instruction changes no byte but the one at its effective address. -/
def Obligations.StoresChangeOnlyTheirByte : Prop :=
  ∀ (i : Instr) (m : MemOperand) (s t u : State) (a : Addr), exec i s = .next t → storesToOperand i = true →
    i.operand = .memory m → effectiveAddress m s = some (a, u) → ∀ b : Addr, b ≠ a → t.byteAt b = s.byteAt b

/-- R30, R176, R177, R231: a push changes no byte but the one at $0100 + SP; JSR changes that one and the next lower one
of the stack page; nothing is emitted. -/
def Obligations.PushesChangeOnlyTheStack : Prop :=
  ∀ (i : Instr) (s t : State), exec i s = .next t → pushes i = true →
    (∀ b : Addr, b ≠ stackAddr s.sp → (i.mnemonic = .jsr → b ≠ stackAddr (s.sp - 1)) → t.byteAt b = s.byteAt b) ∧
    t.output = s.output

/-! ## Operands -/

/-- R128 to R132, in numbers: zero-page sums wrap at 256, absolute sums at 65536, and nothing is read. -/
def Obligations.DirectAddressesWrap : Prop :=
  ∀ (s : State) (zp : Byte) (addr : Addr),
    effectiveAddress (.zeroPage zp) s = some (BitVec.ofNat 16 zp.toNat, s) ∧
    effectiveAddress (.zeroPageX zp) s = some (BitVec.ofNat 16 ((zp.toNat + s.x.toNat) % 256), s) ∧
    effectiveAddress (.zeroPageY zp) s = some (BitVec.ofNat 16 ((zp.toNat + s.y.toNat) % 256), s) ∧
    effectiveAddress (.absolute addr) s = some (addr, s) ∧
    effectiveAddress (.absoluteX addr) s = some (BitVec.ofNat 16 ((addr.toNat + s.x.toNat) % 65536), s) ∧
    effectiveAddress (.absoluteY addr) s = some (BitVec.ofNat 16 ((addr.toNat + s.y.toNat) % 65536), s)

/-- R134 to R136: the pointer of the indirect modes is two bytes of page zero, low byte first, its second byte at the
next address modulo 256; IndirectX adds X before, IndirectY adds Y after. -/
def Obligations.PointersLieInPageZero : Prop :=
  ∀ (s t u : State) (zp lo hi : Byte),
    (s.read (BitVec.ofNat 16 ((zp.toNat + s.x.toNat) % 256)) = some (lo, t) →
      t.read (BitVec.ofNat 16 ((zp.toNat + s.x.toNat + 1) % 256)) = some (hi, u) →
      effectiveAddress (.indirectX zp) s = some (BitVec.ofNat 16 (hi.toNat * 256 + lo.toNat), u)) ∧
    (s.read (BitVec.ofNat 16 zp.toNat) = some (lo, t) →
      t.read (BitVec.ofNat 16 ((zp.toNat + 1) % 256)) = some (hi, u) →
      effectiveAddress (.indirectY zp) s =
        some (BitVec.ofNat 16 ((hi.toNat * 256 + lo.toNat + s.y.toNat) % 65536), u))

/-! ## Loads, stores, transfers, stack -/

/-- R123: the operand of a read instruction is its immediate value, with no access, or one read of its effective address.
R160 to R162: a load answers the state after its operand is read, with the register, N and Z written. -/
def Obligations.LoadsWriteTheirRegister : Prop :=
  (∀ (v : Byte) (s : State), sourceValue (.immediate v) s = some (v, s)) ∧
  (∀ (m : MemOperand) (s t : State) (a : Addr), effectiveAddress m s = some (a, t) →
    sourceValue (.memory m) s = t.read a) ∧
  (∀ (i : Instr) (src : Source) (s t : State) (v : Byte), i.operand = src.operand → sourceValue src s = some (v, t) →
    (i.mnemonic = .lda → exec i s = .next { t with a := v, flagZ := v == 0, flagN := v.getLsbD 7 }) ∧
    (i.mnemonic = .ldx → exec i s = .next { t with x := v, flagZ := v == 0, flagN := v.getLsbD 7 }) ∧
    (i.mnemonic = .ldy → exec i s = .next { t with y := v, flagZ := v == 0, flagN := v.getLsbD 7 }))

/-- R163 to R165: a store is one write of its register to its effective address; no flag changes. -/
def Obligations.StoresWriteTheirRegister : Prop :=
  ∀ (i : Instr) (m : MemOperand) (s t : State) (a : Addr), i.operand = .memory m → effectiveAddress m s = some (a, t) →
    (i.mnemonic = .sta → exec i s = .next (t.write a s.a)) ∧
    (i.mnemonic = .stx → exec i s = .next (t.write a s.x)) ∧
    (i.mnemonic = .sty → exec i s = .next (t.write a s.y))

/-- R170 to R175: the transfers, with their opcodes; all but TXS write N and Z, and nothing else changes. -/
def Obligations.TransfersCopyARegister : Prop :=
  ∀ s : State,
    (encode .tax = [0xAA] ∧ exec .tax s = .next { s with x := s.a, flagZ := s.a == 0, flagN := s.a.getLsbD 7 }) ∧
    (encode .tay = [0xA8] ∧ exec .tay s = .next { s with y := s.a, flagZ := s.a == 0, flagN := s.a.getLsbD 7 }) ∧
    (encode .tsx = [0xBA] ∧ exec .tsx s = .next { s with x := s.sp, flagZ := s.sp == 0, flagN := s.sp.getLsbD 7 }) ∧
    (encode .txa = [0x8A] ∧ exec .txa s = .next { s with a := s.x, flagZ := s.x == 0, flagN := s.x.getLsbD 7 }) ∧
    (encode .txs = [0x9A] ∧ exec .txs s = .next { s with sp := s.x }) ∧
    (encode .tya = [0x98] ∧ exec .tya s = .next { s with a := s.y, flagZ := s.y == 0, flagN := s.y.getLsbD 7 })

/-- R30, R24, R27, R176, R177: PHA and PHP write the stack byte at 256 + SP, then SP goes down by one modulo 256; the byte
PHP pushes has bits 5 and 4 set and the six flags in their places. -/
def Obligations.PushesWriteThenDecrement : Prop :=
  (∀ s : State, exec .pha s = .next { s.write (BitVec.ofNat 16 (256 + s.sp.toNat)) s.a with
    sp := BitVec.ofNat 8 (s.sp.toNat + 255) }) ∧
  (∀ s : State, ∃ p : Byte,
    exec .php s = .next { s.write (BitVec.ofNat 16 (256 + s.sp.toNat)) p with
      sp := BitVec.ofNat 8 (s.sp.toNat + 255) } ∧
    p.getLsbD 7 = s.flagN ∧ p.getLsbD 6 = s.flagV ∧ p.getLsbD 5 = true ∧ p.getLsbD 4 = true ∧
    p.getLsbD 3 = s.flagD ∧ p.getLsbD 2 = s.flagI ∧ p.getLsbD 1 = s.flagZ ∧ p.getLsbD 0 = s.flagC)

/-- R31, R178, R179: a pull moves SP up by one modulo 256, then reads the stack byte, and always answers; PLA loads A, N
and Z from it, PLP the six flags. -/
def Obligations.PullsIncrementThenRead : Prop :=
  (∀ s : State, s.pull = State.read { s with sp := BitVec.ofNat 8 (s.sp.toNat + 1) }
    (BitVec.ofNat 16 (256 + (s.sp.toNat + 1) % 256))) ∧
  (∀ s : State, ∃ v t, s.pull = some (v, t)) ∧
  (∀ (s t : State) (v : Byte), s.pull = some (v, t) →
    exec .pla s = .next { t with a := v, flagZ := v == 0, flagN := v.getLsbD 7 } ∧
    exec .plp s = .next { t with flagN := v.getLsbD 7, flagV := v.getLsbD 6, flagD := v.getLsbD 3,
                                 flagI := v.getLsbD 2, flagZ := v.getLsbD 1, flagC := v.getLsbD 0 })

/-! ## Arithmetic, logic, compare -/

/-- R190, R194: ADC: binary where D is clear or ignored, with V exactly when the signed sum is out of range; decimal
(`adcBcd`) where D is set and DECIMAL_MODE is NmosBcd. -/
def Obligations.AdcAddsWithCarry : Prop :=
  ∀ (i : Instr) (src : Source) (s t : State) (m : Byte), i.mnemonic = .adc → i.operand = src.operand →
    sourceValue src s = some (m, t) →
    (s.flagD = false ∨ s.decimalMode = .binary →
      exec i s = .next { t with
        a := BitVec.ofNat 8 (s.a.toNat + m.toNat + s.flagC.toNat)
        flagC := decide (256 ≤ s.a.toNat + m.toNat + s.flagC.toNat)
        flagV := signedOverflow s.a m s.flagC
        flagZ := decide ((s.a.toNat + m.toNat + s.flagC.toNat) % 256 = 0)
        flagN := decide (128 ≤ (s.a.toNat + m.toNat + s.flagC.toNat) % 256) }) ∧
    (s.flagD = true → s.decimalMode = .nmosBcd →
      exec i s = .next { t with
        a := (adcBcd s.a m s.flagC).value
        flagC := (adcBcd s.a m s.flagC).c
        flagV := (adcBcd s.a m s.flagC).v
        flagZ := (adcBcd s.a m s.flagC).z
        flagN := (adcBcd s.a m s.flagC).n })

/-- R195: SBC computes A - m - (1 - C); C afterwards means no borrow. Decimal (`sbcBcd`) where D is set and DECIMAL_MODE
is NmosBcd. -/
def Obligations.SbcSubtractsWithBorrow : Prop :=
  ∀ (i : Instr) (src : Source) (s t : State) (m : Byte), i.mnemonic = .sbc → i.operand = src.operand →
    sourceValue src s = some (m, t) →
    (s.flagD = false ∨ s.decimalMode = .binary →
      exec i s = .next { t with
        a := BitVec.ofInt 8 ((s.a.toNat : Int) - m.toNat - (1 - s.flagC.toNat))
        flagC := decide ((m.toNat : Int) + (1 - s.flagC.toNat) ≤ s.a.toNat)
        flagV := decide (s.a.toInt - m.toInt - (1 - s.flagC.toNat) < -128 ∨
          127 < s.a.toInt - m.toInt - (1 - s.flagC.toNat))
        flagZ := BitVec.ofInt 8 ((s.a.toNat : Int) - m.toNat - (1 - s.flagC.toNat)) == 0
        flagN := (BitVec.ofInt 8 ((s.a.toNat : Int) - m.toNat - (1 - s.flagC.toNat))).getLsbD 7 }) ∧
    (s.flagD = true → s.decimalMode = .nmosBcd →
      exec i s = .next { t with
        a := (sbcBcd s.a m s.flagC).value
        flagC := (sbcBcd s.a m s.flagC).c
        flagV := (sbcBcd s.a m s.flagC).v
        flagZ := (sbcBcd s.a m s.flagC).z
        flagN := (sbcBcd s.a m s.flagC).n })

/-- R191, R192: the decimal algorithms for every input, in numbers. -/
def Obligations.DecimalAlgorithmsOfTheSpec : Prop :=
  ∀ (a m : Byte) (c : Bool),
    (let al := a.toNat % 16 + m.toNat % 16 + c.toNat
     let al' := if 10 ≤ al then (al + 6) % 16 + 16 else al
     let t := a.toNat / 16 * 16 + m.toNat / 16 * 16 + al'
     let ts : Int := (if a.toNat < 128 then 0 else -256) + (if m.toNat < 128 then 0 else -256) + t
     let t' := if 160 ≤ t then t + 96 else t
     adcBcd a m c = ⟨BitVec.ofNat 8 t', decide (t / 128 % 2 = 1), decide (ts < -128 ∨ 127 < ts),
       decide ((a.toNat + m.toNat + c.toNat) % 256 = 0), decide (256 ≤ t')⟩) ∧
    (let al : Int := (a.toNat % 16 : Nat) - (m.toNat % 16 : Nat) + (c.toNat : Int) - 1
     let al' := if al < 0 then (al - 6) % 16 - 16 else al
     let t := ((a.toNat / 16 * 16 : Nat) : Int) - (m.toNat / 16 * 16 : Nat) + al'
     let t' := if t < 0 then t - 96 else t
     sbcBcd a m c = { subBin a m c with value := BitVec.ofInt 8 t' })

/-- R191, R192 on valid decimal operands: the two digits of the decimal sum and of the decimal difference modulo 100, with
C the decimal carry and the decimal "no borrow". -/
def Obligations.DecimalArithmeticIsDecimal : Prop :=
  ∀ (x y : Nat) (c : Bool), x < 100 → y < 100 →
    (adcBcd (bcd x) (bcd y) c).value = bcd ((x + y + c.toNat) % 100) ∧
    (adcBcd (bcd x) (bcd y) c).c = decide (100 ≤ x + y + c.toNat) ∧
    (sbcBcd (bcd x) (bcd y) c).value = bcd ((x + 99 + c.toNat - y) % 100) ∧
    (sbcBcd (bcd x) (bcd y) c).c = decide (y + 1 ≤ x + c.toNat)

/-- R196 to R199: AND, ORA, EOR write A, N, Z; BIT writes no register, takes N and V from the operand and Z from A and
the operand. -/
def Obligations.LogicAndBitResults : Prop :=
  ∀ (i : Instr) (src : Source) (s t : State) (m : Byte), i.operand = src.operand → sourceValue src s = some (m, t) →
    (i.mnemonic = .and → exec i s = .next { t with
      a := s.a &&& m, flagZ := (s.a &&& m) == 0, flagN := (s.a &&& m).getLsbD 7 }) ∧
    (i.mnemonic = .ora → exec i s = .next { t with
      a := s.a ||| m, flagZ := (s.a ||| m) == 0, flagN := (s.a ||| m).getLsbD 7 }) ∧
    (i.mnemonic = .eor → exec i s = .next { t with
      a := s.a ^^^ m, flagZ := (s.a ^^^ m) == 0, flagN := (s.a ^^^ m).getLsbD 7 }) ∧
    (i.mnemonic = .bit → exec i s = .next { t with
      flagZ := (s.a &&& m) == 0, flagN := m.getLsbD 7, flagV := m.getLsbD 6 })

/-- R193, R200 to R202: a comparison writes C (unsigned "not less"), Z (equal) and N (bit 7 of the difference modulo 256)
and nothing else. -/
def Obligations.ComparesWriteThreeFlags : Prop :=
  ∀ (i : Instr) (src : Source) (s t : State) (m : Byte), i.operand = src.operand → sourceValue src s = some (m, t) →
    ∀ r : Byte, (i.mnemonic = .cmp ∧ r = s.a) ∨ (i.mnemonic = .cpx ∧ r = s.x) ∨ (i.mnemonic = .cpy ∧ r = s.y) →
      exec i s = .next { t with
        flagC := decide (m.toNat ≤ r.toNat)
        flagZ := decide (r = m)
        flagN := decide (128 ≤ (r.toNat + 256 - m.toNat) % 256) }

/-! ## Increment, decrement, shift -/

/-- R210, R213, R142: INC and DEC read their byte once, write it once, and set N and Z from the result, also where the
write is dropped. -/
def Obligations.IncAndDecModifyTheirByte : Prop :=
  ∀ (i : Instr) (md : MemOperand) (s t u : State) (a : Addr) (v r : Byte), i.operand = .memory md →
    effectiveAddress md s = some (a, t) → t.read a = some (v, u) → stepped i.mnemonic v = some r →
    exec i s = .next { u.write a r with flagZ := r == 0, flagN := r.getLsbD 7 }

/-- R211, R212, R214, R215, R34: INX, INY, DEX, DEY count modulo 256 and set N and Z. -/
def Obligations.IndexRegistersCountModulo256 : Prop :=
  ∀ s : State,
    (∃ r : Byte, r.toNat = (s.x.toNat + 1) % 256 ∧
      exec .inx s = .next { s with x := r, flagZ := r == 0, flagN := r.getLsbD 7 }) ∧
    (∃ r : Byte, r.toNat = (s.y.toNat + 1) % 256 ∧
      exec .iny s = .next { s with y := r, flagZ := r == 0, flagN := r.getLsbD 7 }) ∧
    (∃ r : Byte, r.toNat = (s.x.toNat + 255) % 256 ∧
      exec .dex s = .next { s with x := r, flagZ := r == 0, flagN := r.getLsbD 7 }) ∧
    (∃ r : Byte, r.toNat = (s.y.toNat + 255) % 256 ∧
      exec .dey s = .next { s with y := r, flagZ := r == 0, flagN := r.getLsbD 7 })

/-- R216 to R219, R142: ASL, LSR, ROL, ROR of A and of a memory byte. -/
def Obligations.ShiftsMoveOneBitThroughCarry : Prop :=
  ∀ (i : Instr) (s : State),
    (∀ (r : Byte) (c : Bool), i.operand = .accumulator → shifted i.mnemonic s.a s.flagC = some (r, c) →
      exec i s = .next { s with a := r, flagC := c, flagZ := r == 0, flagN := r.getLsbD 7 }) ∧
    (∀ (md : MemOperand) (t u : State) (a : Addr) (v r : Byte) (c : Bool), i.operand = .memory md →
      effectiveAddress md s = some (a, t) → t.read a = some (v, u) → shifted i.mnemonic v s.flagC = some (r, c) →
      exec i s = .next { u.write a r with flagC := c, flagZ := r == 0, flagN := r.getLsbD 7 })

/-! ## Control -/

/-- R230, R133: JMP Absolute; JMP Indirect reads the low byte at the pointer and the high byte where JMP_IND_WRAP says. -/
def Obligations.JumpsSetThePc : Prop :=
  (∀ (s : State) (addr : Addr), exec (.jmpAbs addr) s = .next { s with pc := addr }) ∧
  (∀ (s t u : State) (ptr : Addr) (lo hi : Byte), s.read ptr = some (lo, t) →
    t.read (match s.jmpIndWrap with
      | .pageWrap => (ptr &&& 0xFF00) ||| ((ptr + 1) &&& 0x00FF)
      | .linear => ptr + 1) = some (hi, u) →
    exec (.jmpInd ptr) s = .next { u with pc := BitVec.ofNat 16 (hi.toNat * 256 + lo.toNat) })

/-- R231, R30: JSR writes the high then the low byte of the address of its last byte to the stack, lowers SP by two and
jumps. `s.pc` is the address after the instruction, so that address is `s.pc - 1`. -/
def Obligations.JsrPushesTheReturnAddress : Prop :=
  ∀ (s : State) (addr ret : Addr), ret.toNat = (s.pc.toNat + 65535) % 65536 →
    exec (.jsr addr) s = .next
      { (s.write (stackAddr s.sp) (BitVec.ofNat 8 (ret.toNat / 256))).write (stackAddr (s.sp - 1))
          (BitVec.ofNat 8 (ret.toNat % 256)) with
        sp := s.sp - 2, pc := addr }

/-- R232, R233: RTS pulls low then high and adds one, modulo 65536; RTI pulls the flags, then low and high, and adds
nothing. Both always complete. -/
def Obligations.ReturnsPullThePc : Prop :=
  (∀ (s t u : State) (lo hi : Byte), s.pull = some (lo, t) → t.pull = some (hi, u) →
    exec .rts s = .next { u with pc := BitVec.ofNat 16 ((hi.toNat * 256 + lo.toNat + 1) % 65536) }) ∧
  (∀ (s t u w : State) (p lo hi : Byte), s.pull = some (p, t) → t.pull = some (lo, u) → u.pull = some (hi, w) →
    exec .rti s = .next { w with
      flagN := p.getLsbD 7, flagV := p.getLsbD 6, flagD := p.getLsbD 3, flagI := p.getLsbD 2
      flagZ := p.getLsbD 1, flagC := p.getLsbD 0, pc := BitVec.ofNat 16 (hi.toNat * 256 + lo.toNat) }) ∧
  (∀ s : State, (∃ t, exec .rts s = .next t) ∧ (∃ t, exec .rti s = .next t))

/-- R231, R232: where the two stack bytes are RAM, RTS after JSR returns to the address after the JSR with SP as before,
whatever address it is reached at. -/
def Obligations.RtsReturnsToTheJsr : Prop :=
  ∀ (s t : State) (addr p : Addr), s.policy (stackAddr s.sp) = .ram → s.policy (stackAddr (s.sp - 1)) = .ram →
    exec (.jsr addr) s = .next t →
    exec .rts { t with pc := p } = .next { t with pc := s.pc, sp := s.sp }

/-- R234 to R242, R137: a branch writes PC alone: the target, the signed displacement from the next instruction modulo
65536, where its condition holds, and the next instruction where it does not. -/
def Obligations.BranchesTestOneFlag : Prop :=
  ∀ (i : Instr) (disp : Byte) (s : State) (cond : Bool), i.operand = .relative disp →
    branchCondition i.mnemonic s = some cond →
    ∃ target : Addr, (target.toNat : Int) = ((s.pc.toNat : Int) + disp.toInt) % 65536 ∧
      exec i s = .next { s with pc := if cond then target else s.pc }

/-! ## Flags, NOP, BRK -/

/-- R250 to R257: the flag instructions, with their opcodes, write one flag each; NOP writes nothing. -/
def Obligations.FlagInstructionsAndNop : Prop :=
  ∀ s : State,
    (encode .clc = [0x18] ∧ exec .clc s = .next { s with flagC := false }) ∧
    (encode .cld = [0xD8] ∧ exec .cld s = .next { s with flagD := false }) ∧
    (encode .cli = [0x58] ∧ exec .cli s = .next { s with flagI := false }) ∧
    (encode .clv = [0xB8] ∧ exec .clv s = .next { s with flagV := false }) ∧
    (encode .sec = [0x38] ∧ exec .sec s = .next { s with flagC := true }) ∧
    (encode .sed = [0xF8] ∧ exec .sed s = .next { s with flagD := true }) ∧
    (encode .sei = [0x78] ∧ exec .sei s = .next { s with flagI := true }) ∧
    (encode .nop = [0xEA] ∧ exec .nop s = .next s)

/-- R258: a step at a $00 byte halts the engine with PC after the byte; nothing else changes. -/
def Obligations.BrkHaltsTheEngine : Prop :=
  (∀ s : State, exec .brk s = .next { s with engine := .halted }) ∧
  (∀ s : State, s.engine = .running → s.policy s.pc ≠ .io → s.byteAt s.pc = 0x00 →
    step s = .next { s with engine := .halted, pc := s.pc + 1 })

/-! ## Assembler and loader -/

/-- R289: the length computed in pass 1 is the number of bytes emitted in pass 2, line by line and in all. -/
def Obligations.PassLengthsAgree : Prop :=
  (∀ (sym : Symbols) (addr : Nat) (body : AsmBody) (bs : List Byte), bodyBytes sym addr body = .ok bs →
    bs.length = bodyLength body) ∧
  (∀ (sym : Symbols) (plan : List PlanItem) (bs : List Byte), passTwo sym plan = .ok bs →
    bs.length = (plan.map fun item => bodyLength item.body).sum)

/-- R291, R286, R281: the bytes emitted for an instruction decode to the instruction written: that mnemonic and mode, and
the operand bytes of the value of its term (one byte in range, two bytes low first, or the branch offset). -/
def Obligations.AssembledInstructionsDecode : Prop :=
  ∀ (sym : Symbols) (addr : Nat) (mn : Mnemonic) (md : Mode) (operand : Option Term) (bs : List Byte),
    instrBytes sym addr mn md operand = .ok bs →
    ∃ (i : Instr) (v : Nat), decode bs = .ok (i, []) ∧ i.mnemonic = mn ∧ i.mode = md ∧
      (∀ t, operand = some t → termValue sym t = .ok v) ∧
      operandBytes md addr v = .ok i.operand.bytes ∧
      (md.operandCount = 0 → i.operand.bytes = []) ∧
      (md.operandCount = 1 → md ≠ .relative → v ≤ 255 ∧ i.operand.bytes = [BitVec.ofNat 8 v]) ∧
      (md.operandCount = 2 → i.operand.bytes = [BitVec.ofNat 8 (v % 256), BitVec.ofNat 8 (v / 256)]) ∧
      (md = .relative → ∃ d : Byte, i.operand.bytes = [d] ∧ d.toInt = (v : Int) - (addr + 2))

/-- R288: a relative branch assembles exactly when its offset from the next instruction lies in [-128, 127], and then the
CPU's target is the address written. -/
def Obligations.AssembledBranchesReachTheirTarget : Prop :=
  ∀ (sym : Symbols) (addr v : Nat) (mn : Mnemonic) (t : Term), mn.hasMode .relative = true →
    termValue sym t = .ok v →
    ((-128 : Int) ≤ (v : Int) - (addr + 2) → (v : Int) - (addr + 2) ≤ 127 →
      ∃ op disp : Byte, opcodeOf mn .relative = some op ∧
        instrBytes sym addr mn .relative (some t) = .ok [op, disp] ∧
        ∀ s : State, s.pc = BitVec.ofNat 16 (addr + 2) → branchTarget disp s = BitVec.ofNat 16 v) ∧
    ((v : Int) - (addr + 2) < -128 ∨ 127 < (v : Int) - (addr + 2) →
      instrBytes sym addr mn .relative (some t) = .error .branchOutOfRangeError)

/-- R75, R352: a load succeeds exactly when every byte lies inside the address space and outside the IO regions; then each
byte stands at its address and nothing else has changed. -/
def Obligations.LoadPlacesItsBytes : Prop :=
  ∀ (bs : List Byte) (base : Nat) (s : State),
    ((loadBytes bs base s).isSome = true ↔
      ∀ k, k < bs.length → base + k < 65536 ∧ s.policy (BitVec.ofNat 16 (base + k)) ≠ .io) ∧
    (∀ t, loadBytes bs base s = some t →
      t = { s with mem := t.mem } ∧
      (∀ (k : Nat) (h : k < bs.length), t.byteAt (BitVec.ofNat 16 (base + k)) = bs[k]) ∧
      (∀ a : Addr, (a.toNat < base ∨ base + bs.length ≤ a.toNat) → t.byteAt a = s.byteAt a))

/-- R350 to R352, R38: a launch that succeeds leaves the reset register file with PC at the start address, the regions
registered, the assembled bytes in memory from there on, `InitMem` in every other byte, and the invariant true.
R352 step 5, R326: a run steps while the engine is running, ends at the first state in which it is not, and reports that state; what has not ended within the
budget (the model's, log 19) is still running. R354: every error makes the status non-zero and has a message. The
model's choices: that a refused load counts as such an error and that a halt has neither (log 17), and that the loader
contract supplies all input before the first step (log 19). -/
def Obligations.LaunchLoadsAndResets : Prop :=
  (∀ (regions : List Region) (source : Text) (start : Option Addr) (s : State),
    launch regions source start = .ok s →
    ∃ rs out, registerAll regions [] = .ok rs ∧ assemble source (startAddress start) = .ok out ∧
      s = { State.resetAt (startAddress start) with regions := rs, mem := s.mem } ∧
      (∀ (k : Nat) (h : k < out.bytes.length),
        s.byteAt (BitVec.ofNat 16 ((startAddress start).toNat + k)) = out.bytes[k]) ∧
      (∀ a : Addr, (a.toNat < (startAddress start).toNat ∨
        (startAddress start).toNat + out.bytes.length ≤ a.toNat) → s.byteAt a = Config.initMem a.toNat) ∧
      s.Inv) ∧
  (∀ (n : Nat) (s t : State) (r : Report), runToEnd n s = some (r, t) →
    (∃ k ≤ n, runSteps k s = .next t ∧ ∀ j < k, ∃ u, runSteps j s = .next u ∧ u.engine = .running) ∧
    ((r = .halted ∧ t.engine = .halted) ∨
      ∃ addr byte, r = .invalidOpcode addr byte ∧ t.engine = .faulted .invalidOpcode addr byte)) ∧
  (∀ (n : Nat) (s : State), runToEnd n s = none → ∃ t, runSteps n s = .next t ∧ t.engine = .running) ∧
  (∀ (regions : List Region) (source : Text) (start : Option Addr) (input : List Byte) (n : Nat),
    (∀ e, launch regions source start = .error e →
      loadAndRun regions source start input n = some (.notStarted e)) ∧
    (∀ s, launch regions source start = .ok s →
      loadAndRun regions source start input n =
        (runToEnd n { s with input := s.input ++ input }).map fun p => .ended p.1 p.2)) ∧
  (∀ e : RunEnd, (e.failed = false ↔ ∃ s, e = .ended .halted s) ∧ (e.failed = true ↔ e.message.isSome = true))

/-- R292: Scenario A and Scenario D of the source assemble to the bytes the spec gives. -/
def Obligations.ScenariosAssemble : Prop :=
  assemble " LDX #$41\n STX $D020\n BRK".toList defaultOrigin = .ok ⟨[0xA2, 0x41, 0x8E, 0x20, 0xD0, 0x00], []⟩ ∧
  assemble " JMP LOOP\n LDA #$01\nLOOP: BRK".toList defaultOrigin =
    .ok ⟨[0x4C, 0x05, 0xA0, 0xA9, 0x01, 0x00], [("LOOP".toList, 0xA005)]⟩
end

