-- ==== Sys2Proof/Laws/Memory.lean ====
section
/-! SUPPORT. `Store`: what one write does to every byte, and that it keeps the canonical form. -/

namespace Sys2Proof.Machine

theorem Memory.find_put_same (m : Memory) (a : Nat) (v : Byte) : (m.put a v).find a = some v := by
  induction m with
  | nil => simp [Memory.put, Memory.find]
  | cons c rest ih =>
    obtain ⟨b, w⟩ := c
    simp only [Memory.put]
    split_ifs with h1 h2
    · simp [Memory.find]
    · simp [Memory.find]
    · simp [Memory.find, h1, h2, ih]

theorem Memory.find_put_other (m : Memory) (a b : Nat) (v : Byte) (h : b ≠ a) : (m.put a v).find b = m.find b := by
  induction m with
  | nil => simp [Memory.put, Memory.find, h]
  | cons c rest ih =>
    obtain ⟨d, w⟩ := c
    simp only [Memory.put]
    split_ifs with h1 h2
    · simp only [Memory.find, h, if_false]
      split_ifs <;> first | rfl | omega
    · subst h2; simp [Memory.find, h]
    · simp only [Memory.find, ih]

theorem Memory.byte_put_same (m : Memory) (a : Nat) (v : Byte) : (m.put a v).byte a = v := by
  simp [Memory.byte, Memory.find_put_same]

theorem Memory.byte_put_other (m : Memory) (a b : Nat) (v : Byte) (h : b ≠ a) : (m.put a v).byte b = m.byte b := by
  simp [Memory.byte, Memory.find_put_other m a b v h]

theorem Memory.wfFrom_put (m : Memory) (low a : Nat) (v : Byte) (hm : m.wfFrom low = true) (hlow : low ≤ a)
    (ha : a < 65536) : (m.put a v).wfFrom low = true := by
  induction m generalizing low with
  | nil => simp [Memory.put, Memory.wfFrom, hlow, ha]
  | cons c rest ih =>
    obtain ⟨b, w⟩ := c
    simp only [Memory.wfFrom, Bool.and_eq_true, decide_eq_true_eq] at hm
    obtain ⟨⟨hb, hb'⟩, hrest⟩ := hm
    simp only [Memory.put]
    split_ifs with h1 h2
    · simp only [Memory.wfFrom, Bool.and_eq_true, decide_eq_true_eq]
      exact ⟨⟨hlow, ha⟩, ⟨⟨h1, hb'⟩, hrest⟩⟩
    · subst h2
      simp only [Memory.wfFrom, Bool.and_eq_true, decide_eq_true_eq]
      exact ⟨⟨hlow, ha⟩, hrest⟩
    · simp only [Memory.wfFrom, Bool.and_eq_true, decide_eq_true_eq]
      exact ⟨⟨hb, hb'⟩, ih (b + 1) hrest (by omega)⟩

/-- A write keeps the canonical form. -/
theorem Memory.wf_put (m : Memory) (a : Nat) (v : Byte) (hm : m.wf = true) (ha : a < 65536) :
    (m.put a v).wf = true := m.wfFrom_put 0 a v hm (Nat.zero_le a) ha

@[simp] theorem Memory.wf_nil : Memory.wf [] = true := rfl

end Sys2Proof.Machine
end

