-- ==== Sys2Proof/Laws/State.lean ====
section
/-! SUPPORT. One lemma per field per update of the state, so that no later proof unfolds a record update. -/

namespace Sys2Proof.Machine

/-! `setA` -/

@[simp] theorem State.setA_a (v : Byte) (s : State) : (State.setA v s).a = v := rfl
@[simp] theorem State.setA_x (v : Byte) (s : State) : (State.setA v s).x = s.x := rfl
@[simp] theorem State.setA_y (v : Byte) (s : State) : (State.setA v s).y = s.y := rfl
@[simp] theorem State.setA_sp (v : Byte) (s : State) : (State.setA v s).sp = s.sp := rfl
@[simp] theorem State.setA_pc (v : Byte) (s : State) : (State.setA v s).pc = s.pc := rfl
@[simp] theorem State.setA_flagN (v : Byte) (s : State) : (State.setA v s).flagN = s.flagN := rfl
@[simp] theorem State.setA_flagV (v : Byte) (s : State) : (State.setA v s).flagV = s.flagV := rfl
@[simp] theorem State.setA_flagB (v : Byte) (s : State) : (State.setA v s).flagB = s.flagB := rfl
@[simp] theorem State.setA_flagD (v : Byte) (s : State) : (State.setA v s).flagD = s.flagD := rfl
@[simp] theorem State.setA_flagI (v : Byte) (s : State) : (State.setA v s).flagI = s.flagI := rfl
@[simp] theorem State.setA_flagZ (v : Byte) (s : State) : (State.setA v s).flagZ = s.flagZ := rfl
@[simp] theorem State.setA_flagC (v : Byte) (s : State) : (State.setA v s).flagC = s.flagC := rfl
@[simp] theorem State.setA_engine (v : Byte) (s : State) : (State.setA v s).engine = s.engine := rfl
@[simp] theorem State.setA_mem (v : Byte) (s : State) : (State.setA v s).mem = s.mem := rfl
@[simp] theorem State.setA_input (v : Byte) (s : State) : (State.setA v s).input = s.input := rfl
@[simp] theorem State.setA_inputPos (v : Byte) (s : State) : (State.setA v s).inputPos = s.inputPos := rfl
@[simp] theorem State.setA_inputEnded (v : Byte) (s : State) : (State.setA v s).inputEnded = s.inputEnded := rfl
@[simp] theorem State.setA_output (v : Byte) (s : State) : (State.setA v s).output = s.output := rfl
@[simp] theorem State.setA_ioDraws (v : Byte) (s : State) : (State.setA v s).ioDraws = s.ioDraws := rfl
@[simp] theorem State.setA_regions (v : Byte) (s : State) : (State.setA v s).regions = s.regions := rfl
@[simp] theorem State.setA_decimalMode (v : Byte) (s : State) : (State.setA v s).decimalMode = s.decimalMode := rfl
@[simp] theorem State.setA_jmpIndWrap (v : Byte) (s : State) : (State.setA v s).jmpIndWrap = s.jmpIndWrap := rfl

/-! `setX` -/

@[simp] theorem State.setX_a (v : Byte) (s : State) : (State.setX v s).a = s.a := rfl
@[simp] theorem State.setX_x (v : Byte) (s : State) : (State.setX v s).x = v := rfl
@[simp] theorem State.setX_y (v : Byte) (s : State) : (State.setX v s).y = s.y := rfl
@[simp] theorem State.setX_sp (v : Byte) (s : State) : (State.setX v s).sp = s.sp := rfl
@[simp] theorem State.setX_pc (v : Byte) (s : State) : (State.setX v s).pc = s.pc := rfl
@[simp] theorem State.setX_flagN (v : Byte) (s : State) : (State.setX v s).flagN = s.flagN := rfl
@[simp] theorem State.setX_flagV (v : Byte) (s : State) : (State.setX v s).flagV = s.flagV := rfl
@[simp] theorem State.setX_flagB (v : Byte) (s : State) : (State.setX v s).flagB = s.flagB := rfl
@[simp] theorem State.setX_flagD (v : Byte) (s : State) : (State.setX v s).flagD = s.flagD := rfl
@[simp] theorem State.setX_flagI (v : Byte) (s : State) : (State.setX v s).flagI = s.flagI := rfl
@[simp] theorem State.setX_flagZ (v : Byte) (s : State) : (State.setX v s).flagZ = s.flagZ := rfl
@[simp] theorem State.setX_flagC (v : Byte) (s : State) : (State.setX v s).flagC = s.flagC := rfl
@[simp] theorem State.setX_engine (v : Byte) (s : State) : (State.setX v s).engine = s.engine := rfl
@[simp] theorem State.setX_mem (v : Byte) (s : State) : (State.setX v s).mem = s.mem := rfl
@[simp] theorem State.setX_input (v : Byte) (s : State) : (State.setX v s).input = s.input := rfl
@[simp] theorem State.setX_inputPos (v : Byte) (s : State) : (State.setX v s).inputPos = s.inputPos := rfl
@[simp] theorem State.setX_inputEnded (v : Byte) (s : State) : (State.setX v s).inputEnded = s.inputEnded := rfl
@[simp] theorem State.setX_output (v : Byte) (s : State) : (State.setX v s).output = s.output := rfl
@[simp] theorem State.setX_ioDraws (v : Byte) (s : State) : (State.setX v s).ioDraws = s.ioDraws := rfl
@[simp] theorem State.setX_regions (v : Byte) (s : State) : (State.setX v s).regions = s.regions := rfl
@[simp] theorem State.setX_decimalMode (v : Byte) (s : State) : (State.setX v s).decimalMode = s.decimalMode := rfl
@[simp] theorem State.setX_jmpIndWrap (v : Byte) (s : State) : (State.setX v s).jmpIndWrap = s.jmpIndWrap := rfl

/-! `setY` -/

@[simp] theorem State.setY_a (v : Byte) (s : State) : (State.setY v s).a = s.a := rfl
@[simp] theorem State.setY_x (v : Byte) (s : State) : (State.setY v s).x = s.x := rfl
@[simp] theorem State.setY_y (v : Byte) (s : State) : (State.setY v s).y = v := rfl
@[simp] theorem State.setY_sp (v : Byte) (s : State) : (State.setY v s).sp = s.sp := rfl
@[simp] theorem State.setY_pc (v : Byte) (s : State) : (State.setY v s).pc = s.pc := rfl
@[simp] theorem State.setY_flagN (v : Byte) (s : State) : (State.setY v s).flagN = s.flagN := rfl
@[simp] theorem State.setY_flagV (v : Byte) (s : State) : (State.setY v s).flagV = s.flagV := rfl
@[simp] theorem State.setY_flagB (v : Byte) (s : State) : (State.setY v s).flagB = s.flagB := rfl
@[simp] theorem State.setY_flagD (v : Byte) (s : State) : (State.setY v s).flagD = s.flagD := rfl
@[simp] theorem State.setY_flagI (v : Byte) (s : State) : (State.setY v s).flagI = s.flagI := rfl
@[simp] theorem State.setY_flagZ (v : Byte) (s : State) : (State.setY v s).flagZ = s.flagZ := rfl
@[simp] theorem State.setY_flagC (v : Byte) (s : State) : (State.setY v s).flagC = s.flagC := rfl
@[simp] theorem State.setY_engine (v : Byte) (s : State) : (State.setY v s).engine = s.engine := rfl
@[simp] theorem State.setY_mem (v : Byte) (s : State) : (State.setY v s).mem = s.mem := rfl
@[simp] theorem State.setY_input (v : Byte) (s : State) : (State.setY v s).input = s.input := rfl
@[simp] theorem State.setY_inputPos (v : Byte) (s : State) : (State.setY v s).inputPos = s.inputPos := rfl
@[simp] theorem State.setY_inputEnded (v : Byte) (s : State) : (State.setY v s).inputEnded = s.inputEnded := rfl
@[simp] theorem State.setY_output (v : Byte) (s : State) : (State.setY v s).output = s.output := rfl
@[simp] theorem State.setY_ioDraws (v : Byte) (s : State) : (State.setY v s).ioDraws = s.ioDraws := rfl
@[simp] theorem State.setY_regions (v : Byte) (s : State) : (State.setY v s).regions = s.regions := rfl
@[simp] theorem State.setY_decimalMode (v : Byte) (s : State) : (State.setY v s).decimalMode = s.decimalMode := rfl
@[simp] theorem State.setY_jmpIndWrap (v : Byte) (s : State) : (State.setY v s).jmpIndWrap = s.jmpIndWrap := rfl

/-! `setSP` -/

@[simp] theorem State.setSP_a (v : Byte) (s : State) : (State.setSP v s).a = s.a := rfl
@[simp] theorem State.setSP_x (v : Byte) (s : State) : (State.setSP v s).x = s.x := rfl
@[simp] theorem State.setSP_y (v : Byte) (s : State) : (State.setSP v s).y = s.y := rfl
@[simp] theorem State.setSP_sp (v : Byte) (s : State) : (State.setSP v s).sp = v := rfl
@[simp] theorem State.setSP_pc (v : Byte) (s : State) : (State.setSP v s).pc = s.pc := rfl
@[simp] theorem State.setSP_flagN (v : Byte) (s : State) : (State.setSP v s).flagN = s.flagN := rfl
@[simp] theorem State.setSP_flagV (v : Byte) (s : State) : (State.setSP v s).flagV = s.flagV := rfl
@[simp] theorem State.setSP_flagB (v : Byte) (s : State) : (State.setSP v s).flagB = s.flagB := rfl
@[simp] theorem State.setSP_flagD (v : Byte) (s : State) : (State.setSP v s).flagD = s.flagD := rfl
@[simp] theorem State.setSP_flagI (v : Byte) (s : State) : (State.setSP v s).flagI = s.flagI := rfl
@[simp] theorem State.setSP_flagZ (v : Byte) (s : State) : (State.setSP v s).flagZ = s.flagZ := rfl
@[simp] theorem State.setSP_flagC (v : Byte) (s : State) : (State.setSP v s).flagC = s.flagC := rfl
@[simp] theorem State.setSP_engine (v : Byte) (s : State) : (State.setSP v s).engine = s.engine := rfl
@[simp] theorem State.setSP_mem (v : Byte) (s : State) : (State.setSP v s).mem = s.mem := rfl
@[simp] theorem State.setSP_input (v : Byte) (s : State) : (State.setSP v s).input = s.input := rfl
@[simp] theorem State.setSP_inputPos (v : Byte) (s : State) : (State.setSP v s).inputPos = s.inputPos := rfl
@[simp] theorem State.setSP_inputEnded (v : Byte) (s : State) : (State.setSP v s).inputEnded = s.inputEnded := rfl
@[simp] theorem State.setSP_output (v : Byte) (s : State) : (State.setSP v s).output = s.output := rfl
@[simp] theorem State.setSP_ioDraws (v : Byte) (s : State) : (State.setSP v s).ioDraws = s.ioDraws := rfl
@[simp] theorem State.setSP_regions (v : Byte) (s : State) : (State.setSP v s).regions = s.regions := rfl
@[simp] theorem State.setSP_decimalMode (v : Byte) (s : State) : (State.setSP v s).decimalMode = s.decimalMode := rfl
@[simp] theorem State.setSP_jmpIndWrap (v : Byte) (s : State) : (State.setSP v s).jmpIndWrap = s.jmpIndWrap := rfl

/-! `setPC` -/

@[simp] theorem State.setPC_a (t : Addr) (s : State) : (State.setPC t s).a = s.a := rfl
@[simp] theorem State.setPC_x (t : Addr) (s : State) : (State.setPC t s).x = s.x := rfl
@[simp] theorem State.setPC_y (t : Addr) (s : State) : (State.setPC t s).y = s.y := rfl
@[simp] theorem State.setPC_sp (t : Addr) (s : State) : (State.setPC t s).sp = s.sp := rfl
@[simp] theorem State.setPC_pc (t : Addr) (s : State) : (State.setPC t s).pc = t := rfl
@[simp] theorem State.setPC_flagN (t : Addr) (s : State) : (State.setPC t s).flagN = s.flagN := rfl
@[simp] theorem State.setPC_flagV (t : Addr) (s : State) : (State.setPC t s).flagV = s.flagV := rfl
@[simp] theorem State.setPC_flagB (t : Addr) (s : State) : (State.setPC t s).flagB = s.flagB := rfl
@[simp] theorem State.setPC_flagD (t : Addr) (s : State) : (State.setPC t s).flagD = s.flagD := rfl
@[simp] theorem State.setPC_flagI (t : Addr) (s : State) : (State.setPC t s).flagI = s.flagI := rfl
@[simp] theorem State.setPC_flagZ (t : Addr) (s : State) : (State.setPC t s).flagZ = s.flagZ := rfl
@[simp] theorem State.setPC_flagC (t : Addr) (s : State) : (State.setPC t s).flagC = s.flagC := rfl
@[simp] theorem State.setPC_engine (t : Addr) (s : State) : (State.setPC t s).engine = s.engine := rfl
@[simp] theorem State.setPC_mem (t : Addr) (s : State) : (State.setPC t s).mem = s.mem := rfl
@[simp] theorem State.setPC_input (t : Addr) (s : State) : (State.setPC t s).input = s.input := rfl
@[simp] theorem State.setPC_inputPos (t : Addr) (s : State) : (State.setPC t s).inputPos = s.inputPos := rfl
@[simp] theorem State.setPC_inputEnded (t : Addr) (s : State) : (State.setPC t s).inputEnded = s.inputEnded := rfl
@[simp] theorem State.setPC_output (t : Addr) (s : State) : (State.setPC t s).output = s.output := rfl
@[simp] theorem State.setPC_ioDraws (t : Addr) (s : State) : (State.setPC t s).ioDraws = s.ioDraws := rfl
@[simp] theorem State.setPC_regions (t : Addr) (s : State) : (State.setPC t s).regions = s.regions := rfl
@[simp] theorem State.setPC_decimalMode (t : Addr) (s : State) : (State.setPC t s).decimalMode = s.decimalMode := rfl
@[simp] theorem State.setPC_jmpIndWrap (t : Addr) (s : State) : (State.setPC t s).jmpIndWrap = s.jmpIndWrap := rfl

/-! `setN` -/

@[simp] theorem State.setN_a (f : Bool) (s : State) : (State.setN f s).a = s.a := rfl
@[simp] theorem State.setN_x (f : Bool) (s : State) : (State.setN f s).x = s.x := rfl
@[simp] theorem State.setN_y (f : Bool) (s : State) : (State.setN f s).y = s.y := rfl
@[simp] theorem State.setN_sp (f : Bool) (s : State) : (State.setN f s).sp = s.sp := rfl
@[simp] theorem State.setN_pc (f : Bool) (s : State) : (State.setN f s).pc = s.pc := rfl
@[simp] theorem State.setN_flagN (f : Bool) (s : State) : (State.setN f s).flagN = f := rfl
@[simp] theorem State.setN_flagV (f : Bool) (s : State) : (State.setN f s).flagV = s.flagV := rfl
@[simp] theorem State.setN_flagB (f : Bool) (s : State) : (State.setN f s).flagB = s.flagB := rfl
@[simp] theorem State.setN_flagD (f : Bool) (s : State) : (State.setN f s).flagD = s.flagD := rfl
@[simp] theorem State.setN_flagI (f : Bool) (s : State) : (State.setN f s).flagI = s.flagI := rfl
@[simp] theorem State.setN_flagZ (f : Bool) (s : State) : (State.setN f s).flagZ = s.flagZ := rfl
@[simp] theorem State.setN_flagC (f : Bool) (s : State) : (State.setN f s).flagC = s.flagC := rfl
@[simp] theorem State.setN_engine (f : Bool) (s : State) : (State.setN f s).engine = s.engine := rfl
@[simp] theorem State.setN_mem (f : Bool) (s : State) : (State.setN f s).mem = s.mem := rfl
@[simp] theorem State.setN_input (f : Bool) (s : State) : (State.setN f s).input = s.input := rfl
@[simp] theorem State.setN_inputPos (f : Bool) (s : State) : (State.setN f s).inputPos = s.inputPos := rfl
@[simp] theorem State.setN_inputEnded (f : Bool) (s : State) : (State.setN f s).inputEnded = s.inputEnded := rfl
@[simp] theorem State.setN_output (f : Bool) (s : State) : (State.setN f s).output = s.output := rfl
@[simp] theorem State.setN_ioDraws (f : Bool) (s : State) : (State.setN f s).ioDraws = s.ioDraws := rfl
@[simp] theorem State.setN_regions (f : Bool) (s : State) : (State.setN f s).regions = s.regions := rfl
@[simp] theorem State.setN_decimalMode (f : Bool) (s : State) : (State.setN f s).decimalMode = s.decimalMode := rfl
@[simp] theorem State.setN_jmpIndWrap (f : Bool) (s : State) : (State.setN f s).jmpIndWrap = s.jmpIndWrap := rfl

/-! `setV` -/

@[simp] theorem State.setV_a (f : Bool) (s : State) : (State.setV f s).a = s.a := rfl
@[simp] theorem State.setV_x (f : Bool) (s : State) : (State.setV f s).x = s.x := rfl
@[simp] theorem State.setV_y (f : Bool) (s : State) : (State.setV f s).y = s.y := rfl
@[simp] theorem State.setV_sp (f : Bool) (s : State) : (State.setV f s).sp = s.sp := rfl
@[simp] theorem State.setV_pc (f : Bool) (s : State) : (State.setV f s).pc = s.pc := rfl
@[simp] theorem State.setV_flagN (f : Bool) (s : State) : (State.setV f s).flagN = s.flagN := rfl
@[simp] theorem State.setV_flagV (f : Bool) (s : State) : (State.setV f s).flagV = f := rfl
@[simp] theorem State.setV_flagB (f : Bool) (s : State) : (State.setV f s).flagB = s.flagB := rfl
@[simp] theorem State.setV_flagD (f : Bool) (s : State) : (State.setV f s).flagD = s.flagD := rfl
@[simp] theorem State.setV_flagI (f : Bool) (s : State) : (State.setV f s).flagI = s.flagI := rfl
@[simp] theorem State.setV_flagZ (f : Bool) (s : State) : (State.setV f s).flagZ = s.flagZ := rfl
@[simp] theorem State.setV_flagC (f : Bool) (s : State) : (State.setV f s).flagC = s.flagC := rfl
@[simp] theorem State.setV_engine (f : Bool) (s : State) : (State.setV f s).engine = s.engine := rfl
@[simp] theorem State.setV_mem (f : Bool) (s : State) : (State.setV f s).mem = s.mem := rfl
@[simp] theorem State.setV_input (f : Bool) (s : State) : (State.setV f s).input = s.input := rfl
@[simp] theorem State.setV_inputPos (f : Bool) (s : State) : (State.setV f s).inputPos = s.inputPos := rfl
@[simp] theorem State.setV_inputEnded (f : Bool) (s : State) : (State.setV f s).inputEnded = s.inputEnded := rfl
@[simp] theorem State.setV_output (f : Bool) (s : State) : (State.setV f s).output = s.output := rfl
@[simp] theorem State.setV_ioDraws (f : Bool) (s : State) : (State.setV f s).ioDraws = s.ioDraws := rfl
@[simp] theorem State.setV_regions (f : Bool) (s : State) : (State.setV f s).regions = s.regions := rfl
@[simp] theorem State.setV_decimalMode (f : Bool) (s : State) : (State.setV f s).decimalMode = s.decimalMode := rfl
@[simp] theorem State.setV_jmpIndWrap (f : Bool) (s : State) : (State.setV f s).jmpIndWrap = s.jmpIndWrap := rfl

/-! `setD` -/

@[simp] theorem State.setD_a (f : Bool) (s : State) : (State.setD f s).a = s.a := rfl
@[simp] theorem State.setD_x (f : Bool) (s : State) : (State.setD f s).x = s.x := rfl
@[simp] theorem State.setD_y (f : Bool) (s : State) : (State.setD f s).y = s.y := rfl
@[simp] theorem State.setD_sp (f : Bool) (s : State) : (State.setD f s).sp = s.sp := rfl
@[simp] theorem State.setD_pc (f : Bool) (s : State) : (State.setD f s).pc = s.pc := rfl
@[simp] theorem State.setD_flagN (f : Bool) (s : State) : (State.setD f s).flagN = s.flagN := rfl
@[simp] theorem State.setD_flagV (f : Bool) (s : State) : (State.setD f s).flagV = s.flagV := rfl
@[simp] theorem State.setD_flagB (f : Bool) (s : State) : (State.setD f s).flagB = s.flagB := rfl
@[simp] theorem State.setD_flagD (f : Bool) (s : State) : (State.setD f s).flagD = f := rfl
@[simp] theorem State.setD_flagI (f : Bool) (s : State) : (State.setD f s).flagI = s.flagI := rfl
@[simp] theorem State.setD_flagZ (f : Bool) (s : State) : (State.setD f s).flagZ = s.flagZ := rfl
@[simp] theorem State.setD_flagC (f : Bool) (s : State) : (State.setD f s).flagC = s.flagC := rfl
@[simp] theorem State.setD_engine (f : Bool) (s : State) : (State.setD f s).engine = s.engine := rfl
@[simp] theorem State.setD_mem (f : Bool) (s : State) : (State.setD f s).mem = s.mem := rfl
@[simp] theorem State.setD_input (f : Bool) (s : State) : (State.setD f s).input = s.input := rfl
@[simp] theorem State.setD_inputPos (f : Bool) (s : State) : (State.setD f s).inputPos = s.inputPos := rfl
@[simp] theorem State.setD_inputEnded (f : Bool) (s : State) : (State.setD f s).inputEnded = s.inputEnded := rfl
@[simp] theorem State.setD_output (f : Bool) (s : State) : (State.setD f s).output = s.output := rfl
@[simp] theorem State.setD_ioDraws (f : Bool) (s : State) : (State.setD f s).ioDraws = s.ioDraws := rfl
@[simp] theorem State.setD_regions (f : Bool) (s : State) : (State.setD f s).regions = s.regions := rfl
@[simp] theorem State.setD_decimalMode (f : Bool) (s : State) : (State.setD f s).decimalMode = s.decimalMode := rfl
@[simp] theorem State.setD_jmpIndWrap (f : Bool) (s : State) : (State.setD f s).jmpIndWrap = s.jmpIndWrap := rfl

/-! `setI` -/

@[simp] theorem State.setI_a (f : Bool) (s : State) : (State.setI f s).a = s.a := rfl
@[simp] theorem State.setI_x (f : Bool) (s : State) : (State.setI f s).x = s.x := rfl
@[simp] theorem State.setI_y (f : Bool) (s : State) : (State.setI f s).y = s.y := rfl
@[simp] theorem State.setI_sp (f : Bool) (s : State) : (State.setI f s).sp = s.sp := rfl
@[simp] theorem State.setI_pc (f : Bool) (s : State) : (State.setI f s).pc = s.pc := rfl
@[simp] theorem State.setI_flagN (f : Bool) (s : State) : (State.setI f s).flagN = s.flagN := rfl
@[simp] theorem State.setI_flagV (f : Bool) (s : State) : (State.setI f s).flagV = s.flagV := rfl
@[simp] theorem State.setI_flagB (f : Bool) (s : State) : (State.setI f s).flagB = s.flagB := rfl
@[simp] theorem State.setI_flagD (f : Bool) (s : State) : (State.setI f s).flagD = s.flagD := rfl
@[simp] theorem State.setI_flagI (f : Bool) (s : State) : (State.setI f s).flagI = f := rfl
@[simp] theorem State.setI_flagZ (f : Bool) (s : State) : (State.setI f s).flagZ = s.flagZ := rfl
@[simp] theorem State.setI_flagC (f : Bool) (s : State) : (State.setI f s).flagC = s.flagC := rfl
@[simp] theorem State.setI_engine (f : Bool) (s : State) : (State.setI f s).engine = s.engine := rfl
@[simp] theorem State.setI_mem (f : Bool) (s : State) : (State.setI f s).mem = s.mem := rfl
@[simp] theorem State.setI_input (f : Bool) (s : State) : (State.setI f s).input = s.input := rfl
@[simp] theorem State.setI_inputPos (f : Bool) (s : State) : (State.setI f s).inputPos = s.inputPos := rfl
@[simp] theorem State.setI_inputEnded (f : Bool) (s : State) : (State.setI f s).inputEnded = s.inputEnded := rfl
@[simp] theorem State.setI_output (f : Bool) (s : State) : (State.setI f s).output = s.output := rfl
@[simp] theorem State.setI_ioDraws (f : Bool) (s : State) : (State.setI f s).ioDraws = s.ioDraws := rfl
@[simp] theorem State.setI_regions (f : Bool) (s : State) : (State.setI f s).regions = s.regions := rfl
@[simp] theorem State.setI_decimalMode (f : Bool) (s : State) : (State.setI f s).decimalMode = s.decimalMode := rfl
@[simp] theorem State.setI_jmpIndWrap (f : Bool) (s : State) : (State.setI f s).jmpIndWrap = s.jmpIndWrap := rfl

/-! `setZ` -/

@[simp] theorem State.setZ_a (f : Bool) (s : State) : (State.setZ f s).a = s.a := rfl
@[simp] theorem State.setZ_x (f : Bool) (s : State) : (State.setZ f s).x = s.x := rfl
@[simp] theorem State.setZ_y (f : Bool) (s : State) : (State.setZ f s).y = s.y := rfl
@[simp] theorem State.setZ_sp (f : Bool) (s : State) : (State.setZ f s).sp = s.sp := rfl
@[simp] theorem State.setZ_pc (f : Bool) (s : State) : (State.setZ f s).pc = s.pc := rfl
@[simp] theorem State.setZ_flagN (f : Bool) (s : State) : (State.setZ f s).flagN = s.flagN := rfl
@[simp] theorem State.setZ_flagV (f : Bool) (s : State) : (State.setZ f s).flagV = s.flagV := rfl
@[simp] theorem State.setZ_flagB (f : Bool) (s : State) : (State.setZ f s).flagB = s.flagB := rfl
@[simp] theorem State.setZ_flagD (f : Bool) (s : State) : (State.setZ f s).flagD = s.flagD := rfl
@[simp] theorem State.setZ_flagI (f : Bool) (s : State) : (State.setZ f s).flagI = s.flagI := rfl
@[simp] theorem State.setZ_flagZ (f : Bool) (s : State) : (State.setZ f s).flagZ = f := rfl
@[simp] theorem State.setZ_flagC (f : Bool) (s : State) : (State.setZ f s).flagC = s.flagC := rfl
@[simp] theorem State.setZ_engine (f : Bool) (s : State) : (State.setZ f s).engine = s.engine := rfl
@[simp] theorem State.setZ_mem (f : Bool) (s : State) : (State.setZ f s).mem = s.mem := rfl
@[simp] theorem State.setZ_input (f : Bool) (s : State) : (State.setZ f s).input = s.input := rfl
@[simp] theorem State.setZ_inputPos (f : Bool) (s : State) : (State.setZ f s).inputPos = s.inputPos := rfl
@[simp] theorem State.setZ_inputEnded (f : Bool) (s : State) : (State.setZ f s).inputEnded = s.inputEnded := rfl
@[simp] theorem State.setZ_output (f : Bool) (s : State) : (State.setZ f s).output = s.output := rfl
@[simp] theorem State.setZ_ioDraws (f : Bool) (s : State) : (State.setZ f s).ioDraws = s.ioDraws := rfl
@[simp] theorem State.setZ_regions (f : Bool) (s : State) : (State.setZ f s).regions = s.regions := rfl
@[simp] theorem State.setZ_decimalMode (f : Bool) (s : State) : (State.setZ f s).decimalMode = s.decimalMode := rfl
@[simp] theorem State.setZ_jmpIndWrap (f : Bool) (s : State) : (State.setZ f s).jmpIndWrap = s.jmpIndWrap := rfl

/-! `setC` -/

@[simp] theorem State.setC_a (f : Bool) (s : State) : (State.setC f s).a = s.a := rfl
@[simp] theorem State.setC_x (f : Bool) (s : State) : (State.setC f s).x = s.x := rfl
@[simp] theorem State.setC_y (f : Bool) (s : State) : (State.setC f s).y = s.y := rfl
@[simp] theorem State.setC_sp (f : Bool) (s : State) : (State.setC f s).sp = s.sp := rfl
@[simp] theorem State.setC_pc (f : Bool) (s : State) : (State.setC f s).pc = s.pc := rfl
@[simp] theorem State.setC_flagN (f : Bool) (s : State) : (State.setC f s).flagN = s.flagN := rfl
@[simp] theorem State.setC_flagV (f : Bool) (s : State) : (State.setC f s).flagV = s.flagV := rfl
@[simp] theorem State.setC_flagB (f : Bool) (s : State) : (State.setC f s).flagB = s.flagB := rfl
@[simp] theorem State.setC_flagD (f : Bool) (s : State) : (State.setC f s).flagD = s.flagD := rfl
@[simp] theorem State.setC_flagI (f : Bool) (s : State) : (State.setC f s).flagI = s.flagI := rfl
@[simp] theorem State.setC_flagZ (f : Bool) (s : State) : (State.setC f s).flagZ = s.flagZ := rfl
@[simp] theorem State.setC_flagC (f : Bool) (s : State) : (State.setC f s).flagC = f := rfl
@[simp] theorem State.setC_engine (f : Bool) (s : State) : (State.setC f s).engine = s.engine := rfl
@[simp] theorem State.setC_mem (f : Bool) (s : State) : (State.setC f s).mem = s.mem := rfl
@[simp] theorem State.setC_input (f : Bool) (s : State) : (State.setC f s).input = s.input := rfl
@[simp] theorem State.setC_inputPos (f : Bool) (s : State) : (State.setC f s).inputPos = s.inputPos := rfl
@[simp] theorem State.setC_inputEnded (f : Bool) (s : State) : (State.setC f s).inputEnded = s.inputEnded := rfl
@[simp] theorem State.setC_output (f : Bool) (s : State) : (State.setC f s).output = s.output := rfl
@[simp] theorem State.setC_ioDraws (f : Bool) (s : State) : (State.setC f s).ioDraws = s.ioDraws := rfl
@[simp] theorem State.setC_regions (f : Bool) (s : State) : (State.setC f s).regions = s.regions := rfl
@[simp] theorem State.setC_decimalMode (f : Bool) (s : State) : (State.setC f s).decimalMode = s.decimalMode := rfl
@[simp] theorem State.setC_jmpIndWrap (f : Bool) (s : State) : (State.setC f s).jmpIndWrap = s.jmpIndWrap := rfl

/-! `setEngine` -/

@[simp] theorem State.setEngine_a (e : Engine) (s : State) : (State.setEngine e s).a = s.a := rfl
@[simp] theorem State.setEngine_x (e : Engine) (s : State) : (State.setEngine e s).x = s.x := rfl
@[simp] theorem State.setEngine_y (e : Engine) (s : State) : (State.setEngine e s).y = s.y := rfl
@[simp] theorem State.setEngine_sp (e : Engine) (s : State) : (State.setEngine e s).sp = s.sp := rfl
@[simp] theorem State.setEngine_pc (e : Engine) (s : State) : (State.setEngine e s).pc = s.pc := rfl
@[simp] theorem State.setEngine_flagN (e : Engine) (s : State) : (State.setEngine e s).flagN = s.flagN := rfl
@[simp] theorem State.setEngine_flagV (e : Engine) (s : State) : (State.setEngine e s).flagV = s.flagV := rfl
@[simp] theorem State.setEngine_flagB (e : Engine) (s : State) : (State.setEngine e s).flagB = s.flagB := rfl
@[simp] theorem State.setEngine_flagD (e : Engine) (s : State) : (State.setEngine e s).flagD = s.flagD := rfl
@[simp] theorem State.setEngine_flagI (e : Engine) (s : State) : (State.setEngine e s).flagI = s.flagI := rfl
@[simp] theorem State.setEngine_flagZ (e : Engine) (s : State) : (State.setEngine e s).flagZ = s.flagZ := rfl
@[simp] theorem State.setEngine_flagC (e : Engine) (s : State) : (State.setEngine e s).flagC = s.flagC := rfl
@[simp] theorem State.setEngine_engine (e : Engine) (s : State) : (State.setEngine e s).engine = e := rfl
@[simp] theorem State.setEngine_mem (e : Engine) (s : State) : (State.setEngine e s).mem = s.mem := rfl
@[simp] theorem State.setEngine_input (e : Engine) (s : State) : (State.setEngine e s).input = s.input := rfl
@[simp] theorem State.setEngine_inputPos (e : Engine) (s : State) : (State.setEngine e s).inputPos = s.inputPos := rfl
@[simp] theorem State.setEngine_inputEnded (e : Engine) (s : State) : (State.setEngine e s).inputEnded = s.inputEnded := rfl
@[simp] theorem State.setEngine_output (e : Engine) (s : State) : (State.setEngine e s).output = s.output := rfl
@[simp] theorem State.setEngine_ioDraws (e : Engine) (s : State) : (State.setEngine e s).ioDraws = s.ioDraws := rfl
@[simp] theorem State.setEngine_regions (e : Engine) (s : State) : (State.setEngine e s).regions = s.regions := rfl
@[simp] theorem State.setEngine_decimalMode (e : Engine) (s : State) : (State.setEngine e s).decimalMode = s.decimalMode := rfl
@[simp] theorem State.setEngine_jmpIndWrap (e : Engine) (s : State) : (State.setEngine e s).jmpIndWrap = s.jmpIndWrap := rfl

/-! `setNZ` -/

@[simp] theorem State.setNZ_a (v : Byte) (s : State) : (State.setNZ v s).a = s.a := rfl
@[simp] theorem State.setNZ_x (v : Byte) (s : State) : (State.setNZ v s).x = s.x := rfl
@[simp] theorem State.setNZ_y (v : Byte) (s : State) : (State.setNZ v s).y = s.y := rfl
@[simp] theorem State.setNZ_sp (v : Byte) (s : State) : (State.setNZ v s).sp = s.sp := rfl
@[simp] theorem State.setNZ_pc (v : Byte) (s : State) : (State.setNZ v s).pc = s.pc := rfl
@[simp] theorem State.setNZ_flagN (v : Byte) (s : State) : (State.setNZ v s).flagN = v.getLsbD 7 := rfl
@[simp] theorem State.setNZ_flagV (v : Byte) (s : State) : (State.setNZ v s).flagV = s.flagV := rfl
@[simp] theorem State.setNZ_flagB (v : Byte) (s : State) : (State.setNZ v s).flagB = s.flagB := rfl
@[simp] theorem State.setNZ_flagD (v : Byte) (s : State) : (State.setNZ v s).flagD = s.flagD := rfl
@[simp] theorem State.setNZ_flagI (v : Byte) (s : State) : (State.setNZ v s).flagI = s.flagI := rfl
@[simp] theorem State.setNZ_flagZ (v : Byte) (s : State) : (State.setNZ v s).flagZ = (v == 0) := rfl
@[simp] theorem State.setNZ_flagC (v : Byte) (s : State) : (State.setNZ v s).flagC = s.flagC := rfl
@[simp] theorem State.setNZ_engine (v : Byte) (s : State) : (State.setNZ v s).engine = s.engine := rfl
@[simp] theorem State.setNZ_mem (v : Byte) (s : State) : (State.setNZ v s).mem = s.mem := rfl
@[simp] theorem State.setNZ_input (v : Byte) (s : State) : (State.setNZ v s).input = s.input := rfl
@[simp] theorem State.setNZ_inputPos (v : Byte) (s : State) : (State.setNZ v s).inputPos = s.inputPos := rfl
@[simp] theorem State.setNZ_inputEnded (v : Byte) (s : State) : (State.setNZ v s).inputEnded = s.inputEnded := rfl
@[simp] theorem State.setNZ_output (v : Byte) (s : State) : (State.setNZ v s).output = s.output := rfl
@[simp] theorem State.setNZ_ioDraws (v : Byte) (s : State) : (State.setNZ v s).ioDraws = s.ioDraws := rfl
@[simp] theorem State.setNZ_regions (v : Byte) (s : State) : (State.setNZ v s).regions = s.regions := rfl
@[simp] theorem State.setNZ_decimalMode (v : Byte) (s : State) : (State.setNZ v s).decimalMode = s.decimalMode := rfl
@[simp] theorem State.setNZ_jmpIndWrap (v : Byte) (s : State) : (State.setNZ v s).jmpIndWrap = s.jmpIndWrap := rfl

/-! `consumeInput` -/

@[simp] theorem State.consumeInput_a (s : State) : (s.consumeInput).a = s.a := rfl
@[simp] theorem State.consumeInput_x (s : State) : (s.consumeInput).x = s.x := rfl
@[simp] theorem State.consumeInput_y (s : State) : (s.consumeInput).y = s.y := rfl
@[simp] theorem State.consumeInput_sp (s : State) : (s.consumeInput).sp = s.sp := rfl
@[simp] theorem State.consumeInput_pc (s : State) : (s.consumeInput).pc = s.pc := rfl
@[simp] theorem State.consumeInput_flagN (s : State) : (s.consumeInput).flagN = s.flagN := rfl
@[simp] theorem State.consumeInput_flagV (s : State) : (s.consumeInput).flagV = s.flagV := rfl
@[simp] theorem State.consumeInput_flagB (s : State) : (s.consumeInput).flagB = s.flagB := rfl
@[simp] theorem State.consumeInput_flagD (s : State) : (s.consumeInput).flagD = s.flagD := rfl
@[simp] theorem State.consumeInput_flagI (s : State) : (s.consumeInput).flagI = s.flagI := rfl
@[simp] theorem State.consumeInput_flagZ (s : State) : (s.consumeInput).flagZ = s.flagZ := rfl
@[simp] theorem State.consumeInput_flagC (s : State) : (s.consumeInput).flagC = s.flagC := rfl
@[simp] theorem State.consumeInput_engine (s : State) : (s.consumeInput).engine = s.engine := rfl
@[simp] theorem State.consumeInput_mem (s : State) : (s.consumeInput).mem = s.mem := rfl
@[simp] theorem State.consumeInput_input (s : State) : (s.consumeInput).input = s.input := rfl
@[simp] theorem State.consumeInput_inputPos (s : State) : (s.consumeInput).inputPos = s.inputPos + 1 := rfl
@[simp] theorem State.consumeInput_inputEnded (s : State) : (s.consumeInput).inputEnded = s.inputEnded := rfl
@[simp] theorem State.consumeInput_output (s : State) : (s.consumeInput).output = s.output := rfl
@[simp] theorem State.consumeInput_ioDraws (s : State) : (s.consumeInput).ioDraws = s.ioDraws := rfl
@[simp] theorem State.consumeInput_regions (s : State) : (s.consumeInput).regions = s.regions := rfl
@[simp] theorem State.consumeInput_decimalMode (s : State) : (s.consumeInput).decimalMode = s.decimalMode := rfl
@[simp] theorem State.consumeInput_jmpIndWrap (s : State) : (s.consumeInput).jmpIndWrap = s.jmpIndWrap := rfl

/-! `emit` -/

@[simp] theorem State.emit_a (v : Byte) (s : State) : (State.emit v s).a = s.a := rfl
@[simp] theorem State.emit_x (v : Byte) (s : State) : (State.emit v s).x = s.x := rfl
@[simp] theorem State.emit_y (v : Byte) (s : State) : (State.emit v s).y = s.y := rfl
@[simp] theorem State.emit_sp (v : Byte) (s : State) : (State.emit v s).sp = s.sp := rfl
@[simp] theorem State.emit_pc (v : Byte) (s : State) : (State.emit v s).pc = s.pc := rfl
@[simp] theorem State.emit_flagN (v : Byte) (s : State) : (State.emit v s).flagN = s.flagN := rfl
@[simp] theorem State.emit_flagV (v : Byte) (s : State) : (State.emit v s).flagV = s.flagV := rfl
@[simp] theorem State.emit_flagB (v : Byte) (s : State) : (State.emit v s).flagB = s.flagB := rfl
@[simp] theorem State.emit_flagD (v : Byte) (s : State) : (State.emit v s).flagD = s.flagD := rfl
@[simp] theorem State.emit_flagI (v : Byte) (s : State) : (State.emit v s).flagI = s.flagI := rfl
@[simp] theorem State.emit_flagZ (v : Byte) (s : State) : (State.emit v s).flagZ = s.flagZ := rfl
@[simp] theorem State.emit_flagC (v : Byte) (s : State) : (State.emit v s).flagC = s.flagC := rfl
@[simp] theorem State.emit_engine (v : Byte) (s : State) : (State.emit v s).engine = s.engine := rfl
@[simp] theorem State.emit_mem (v : Byte) (s : State) : (State.emit v s).mem = s.mem := rfl
@[simp] theorem State.emit_input (v : Byte) (s : State) : (State.emit v s).input = s.input := rfl
@[simp] theorem State.emit_inputPos (v : Byte) (s : State) : (State.emit v s).inputPos = s.inputPos := rfl
@[simp] theorem State.emit_inputEnded (v : Byte) (s : State) : (State.emit v s).inputEnded = s.inputEnded := rfl
@[simp] theorem State.emit_output (v : Byte) (s : State) : (State.emit v s).output = s.output ++ [v] := rfl
@[simp] theorem State.emit_ioDraws (v : Byte) (s : State) : (State.emit v s).ioDraws = s.ioDraws := rfl
@[simp] theorem State.emit_regions (v : Byte) (s : State) : (State.emit v s).regions = s.regions := rfl
@[simp] theorem State.emit_decimalMode (v : Byte) (s : State) : (State.emit v s).decimalMode = s.decimalMode := rfl
@[simp] theorem State.emit_jmpIndWrap (v : Byte) (s : State) : (State.emit v s).jmpIndWrap = s.jmpIndWrap := rfl

/-! `drawIo` -/

@[simp] theorem State.drawIo_a (s : State) : (s.drawIo).a = s.a := rfl
@[simp] theorem State.drawIo_x (s : State) : (s.drawIo).x = s.x := rfl
@[simp] theorem State.drawIo_y (s : State) : (s.drawIo).y = s.y := rfl
@[simp] theorem State.drawIo_sp (s : State) : (s.drawIo).sp = s.sp := rfl
@[simp] theorem State.drawIo_pc (s : State) : (s.drawIo).pc = s.pc := rfl
@[simp] theorem State.drawIo_flagN (s : State) : (s.drawIo).flagN = s.flagN := rfl
@[simp] theorem State.drawIo_flagV (s : State) : (s.drawIo).flagV = s.flagV := rfl
@[simp] theorem State.drawIo_flagB (s : State) : (s.drawIo).flagB = s.flagB := rfl
@[simp] theorem State.drawIo_flagD (s : State) : (s.drawIo).flagD = s.flagD := rfl
@[simp] theorem State.drawIo_flagI (s : State) : (s.drawIo).flagI = s.flagI := rfl
@[simp] theorem State.drawIo_flagZ (s : State) : (s.drawIo).flagZ = s.flagZ := rfl
@[simp] theorem State.drawIo_flagC (s : State) : (s.drawIo).flagC = s.flagC := rfl
@[simp] theorem State.drawIo_engine (s : State) : (s.drawIo).engine = s.engine := rfl
@[simp] theorem State.drawIo_mem (s : State) : (s.drawIo).mem = s.mem := rfl
@[simp] theorem State.drawIo_input (s : State) : (s.drawIo).input = s.input := rfl
@[simp] theorem State.drawIo_inputPos (s : State) : (s.drawIo).inputPos = s.inputPos := rfl
@[simp] theorem State.drawIo_inputEnded (s : State) : (s.drawIo).inputEnded = s.inputEnded := rfl
@[simp] theorem State.drawIo_output (s : State) : (s.drawIo).output = s.output := rfl
@[simp] theorem State.drawIo_ioDraws (s : State) : (s.drawIo).ioDraws = s.ioDraws + 1 := rfl
@[simp] theorem State.drawIo_regions (s : State) : (s.drawIo).regions = s.regions := rfl
@[simp] theorem State.drawIo_decimalMode (s : State) : (s.drawIo).decimalMode = s.decimalMode := rfl
@[simp] theorem State.drawIo_jmpIndWrap (s : State) : (s.drawIo).jmpIndWrap = s.jmpIndWrap := rfl

/-! `setArith` -/

@[simp] theorem State.setArith_a (r : ArithResult) (s : State) : (State.setArith r s).a = r.value := rfl
@[simp] theorem State.setArith_x (r : ArithResult) (s : State) : (State.setArith r s).x = s.x := rfl
@[simp] theorem State.setArith_y (r : ArithResult) (s : State) : (State.setArith r s).y = s.y := rfl
@[simp] theorem State.setArith_sp (r : ArithResult) (s : State) : (State.setArith r s).sp = s.sp := rfl
@[simp] theorem State.setArith_pc (r : ArithResult) (s : State) : (State.setArith r s).pc = s.pc := rfl
@[simp] theorem State.setArith_flagN (r : ArithResult) (s : State) : (State.setArith r s).flagN = r.n := rfl
@[simp] theorem State.setArith_flagV (r : ArithResult) (s : State) : (State.setArith r s).flagV = r.v := rfl
@[simp] theorem State.setArith_flagB (r : ArithResult) (s : State) : (State.setArith r s).flagB = s.flagB := rfl
@[simp] theorem State.setArith_flagD (r : ArithResult) (s : State) : (State.setArith r s).flagD = s.flagD := rfl
@[simp] theorem State.setArith_flagI (r : ArithResult) (s : State) : (State.setArith r s).flagI = s.flagI := rfl
@[simp] theorem State.setArith_flagZ (r : ArithResult) (s : State) : (State.setArith r s).flagZ = r.z := rfl
@[simp] theorem State.setArith_flagC (r : ArithResult) (s : State) : (State.setArith r s).flagC = r.c := rfl
@[simp] theorem State.setArith_engine (r : ArithResult) (s : State) : (State.setArith r s).engine = s.engine := rfl
@[simp] theorem State.setArith_mem (r : ArithResult) (s : State) : (State.setArith r s).mem = s.mem := rfl
@[simp] theorem State.setArith_input (r : ArithResult) (s : State) : (State.setArith r s).input = s.input := rfl
@[simp] theorem State.setArith_inputPos (r : ArithResult) (s : State) : (State.setArith r s).inputPos = s.inputPos := rfl
@[simp] theorem State.setArith_inputEnded (r : ArithResult) (s : State) : (State.setArith r s).inputEnded = s.inputEnded := rfl
@[simp] theorem State.setArith_output (r : ArithResult) (s : State) : (State.setArith r s).output = s.output := rfl
@[simp] theorem State.setArith_ioDraws (r : ArithResult) (s : State) : (State.setArith r s).ioDraws = s.ioDraws := rfl
@[simp] theorem State.setArith_regions (r : ArithResult) (s : State) : (State.setArith r s).regions = s.regions := rfl
@[simp] theorem State.setArith_decimalMode (r : ArithResult) (s : State) : (State.setArith r s).decimalMode = s.decimalMode := rfl
@[simp] theorem State.setArith_jmpIndWrap (r : ArithResult) (s : State) : (State.setArith r s).jmpIndWrap = s.jmpIndWrap := rfl

/-! `loadStatus` -/

@[simp] theorem State.loadStatus_a (p : Byte) (s : State) : (State.loadStatus p s).a = s.a := rfl
@[simp] theorem State.loadStatus_x (p : Byte) (s : State) : (State.loadStatus p s).x = s.x := rfl
@[simp] theorem State.loadStatus_y (p : Byte) (s : State) : (State.loadStatus p s).y = s.y := rfl
@[simp] theorem State.loadStatus_sp (p : Byte) (s : State) : (State.loadStatus p s).sp = s.sp := rfl
@[simp] theorem State.loadStatus_pc (p : Byte) (s : State) : (State.loadStatus p s).pc = s.pc := rfl
@[simp] theorem State.loadStatus_flagN (p : Byte) (s : State) : (State.loadStatus p s).flagN = p.getLsbD 7 := rfl
@[simp] theorem State.loadStatus_flagV (p : Byte) (s : State) : (State.loadStatus p s).flagV = p.getLsbD 6 := rfl
@[simp] theorem State.loadStatus_flagB (p : Byte) (s : State) : (State.loadStatus p s).flagB = s.flagB := rfl
@[simp] theorem State.loadStatus_flagD (p : Byte) (s : State) : (State.loadStatus p s).flagD = p.getLsbD 3 := rfl
@[simp] theorem State.loadStatus_flagI (p : Byte) (s : State) : (State.loadStatus p s).flagI = p.getLsbD 2 := rfl
@[simp] theorem State.loadStatus_flagZ (p : Byte) (s : State) : (State.loadStatus p s).flagZ = p.getLsbD 1 := rfl
@[simp] theorem State.loadStatus_flagC (p : Byte) (s : State) : (State.loadStatus p s).flagC = p.getLsbD 0 := rfl
@[simp] theorem State.loadStatus_engine (p : Byte) (s : State) : (State.loadStatus p s).engine = s.engine := rfl
@[simp] theorem State.loadStatus_mem (p : Byte) (s : State) : (State.loadStatus p s).mem = s.mem := rfl
@[simp] theorem State.loadStatus_input (p : Byte) (s : State) : (State.loadStatus p s).input = s.input := rfl
@[simp] theorem State.loadStatus_inputPos (p : Byte) (s : State) : (State.loadStatus p s).inputPos = s.inputPos := rfl
@[simp] theorem State.loadStatus_inputEnded (p : Byte) (s : State) : (State.loadStatus p s).inputEnded = s.inputEnded := rfl
@[simp] theorem State.loadStatus_output (p : Byte) (s : State) : (State.loadStatus p s).output = s.output := rfl
@[simp] theorem State.loadStatus_ioDraws (p : Byte) (s : State) : (State.loadStatus p s).ioDraws = s.ioDraws := rfl
@[simp] theorem State.loadStatus_regions (p : Byte) (s : State) : (State.loadStatus p s).regions = s.regions := rfl
@[simp] theorem State.loadStatus_decimalMode (p : Byte) (s : State) : (State.loadStatus p s).decimalMode = s.decimalMode := rfl
@[simp] theorem State.loadStatus_jmpIndWrap (p : Byte) (s : State) : (State.loadStatus p s).jmpIndWrap = s.jmpIndWrap := rfl

/-! `bitTest` -/

@[simp] theorem State.bitTest_a (m : Byte) (s : State) : (State.bitTest m s).a = s.a := rfl
@[simp] theorem State.bitTest_x (m : Byte) (s : State) : (State.bitTest m s).x = s.x := rfl
@[simp] theorem State.bitTest_y (m : Byte) (s : State) : (State.bitTest m s).y = s.y := rfl
@[simp] theorem State.bitTest_sp (m : Byte) (s : State) : (State.bitTest m s).sp = s.sp := rfl
@[simp] theorem State.bitTest_pc (m : Byte) (s : State) : (State.bitTest m s).pc = s.pc := rfl
@[simp] theorem State.bitTest_flagN (m : Byte) (s : State) : (State.bitTest m s).flagN = m.getLsbD 7 := rfl
@[simp] theorem State.bitTest_flagV (m : Byte) (s : State) : (State.bitTest m s).flagV = m.getLsbD 6 := rfl
@[simp] theorem State.bitTest_flagB (m : Byte) (s : State) : (State.bitTest m s).flagB = s.flagB := rfl
@[simp] theorem State.bitTest_flagD (m : Byte) (s : State) : (State.bitTest m s).flagD = s.flagD := rfl
@[simp] theorem State.bitTest_flagI (m : Byte) (s : State) : (State.bitTest m s).flagI = s.flagI := rfl
@[simp] theorem State.bitTest_flagZ (m : Byte) (s : State) : (State.bitTest m s).flagZ = ((s.a &&& m) == 0) := rfl
@[simp] theorem State.bitTest_flagC (m : Byte) (s : State) : (State.bitTest m s).flagC = s.flagC := rfl
@[simp] theorem State.bitTest_engine (m : Byte) (s : State) : (State.bitTest m s).engine = s.engine := rfl
@[simp] theorem State.bitTest_mem (m : Byte) (s : State) : (State.bitTest m s).mem = s.mem := rfl
@[simp] theorem State.bitTest_input (m : Byte) (s : State) : (State.bitTest m s).input = s.input := rfl
@[simp] theorem State.bitTest_inputPos (m : Byte) (s : State) : (State.bitTest m s).inputPos = s.inputPos := rfl
@[simp] theorem State.bitTest_inputEnded (m : Byte) (s : State) : (State.bitTest m s).inputEnded = s.inputEnded := rfl
@[simp] theorem State.bitTest_output (m : Byte) (s : State) : (State.bitTest m s).output = s.output := rfl
@[simp] theorem State.bitTest_ioDraws (m : Byte) (s : State) : (State.bitTest m s).ioDraws = s.ioDraws := rfl
@[simp] theorem State.bitTest_regions (m : Byte) (s : State) : (State.bitTest m s).regions = s.regions := rfl
@[simp] theorem State.bitTest_decimalMode (m : Byte) (s : State) : (State.bitTest m s).decimalMode = s.decimalMode := rfl
@[simp] theorem State.bitTest_jmpIndWrap (m : Byte) (s : State) : (State.bitTest m s).jmpIndWrap = s.jmpIndWrap := rfl

/-! `compare` -/

@[simp] theorem State.compare_a (r m : Byte) (s : State) : (State.compare r m s).a = s.a := rfl
@[simp] theorem State.compare_x (r m : Byte) (s : State) : (State.compare r m s).x = s.x := rfl
@[simp] theorem State.compare_y (r m : Byte) (s : State) : (State.compare r m s).y = s.y := rfl
@[simp] theorem State.compare_sp (r m : Byte) (s : State) : (State.compare r m s).sp = s.sp := rfl
@[simp] theorem State.compare_pc (r m : Byte) (s : State) : (State.compare r m s).pc = s.pc := rfl
@[simp] theorem State.compare_flagN (r m : Byte) (s : State) : (State.compare r m s).flagN = (r - m).getLsbD 7 := rfl
@[simp] theorem State.compare_flagV (r m : Byte) (s : State) : (State.compare r m s).flagV = s.flagV := rfl
@[simp] theorem State.compare_flagB (r m : Byte) (s : State) : (State.compare r m s).flagB = s.flagB := rfl
@[simp] theorem State.compare_flagD (r m : Byte) (s : State) : (State.compare r m s).flagD = s.flagD := rfl
@[simp] theorem State.compare_flagI (r m : Byte) (s : State) : (State.compare r m s).flagI = s.flagI := rfl
@[simp] theorem State.compare_flagZ (r m : Byte) (s : State) : (State.compare r m s).flagZ = (r == m) := rfl
@[simp] theorem State.compare_flagC (r m : Byte) (s : State) : (State.compare r m s).flagC = decide (m.toNat ≤ r.toNat) := rfl
@[simp] theorem State.compare_engine (r m : Byte) (s : State) : (State.compare r m s).engine = s.engine := rfl
@[simp] theorem State.compare_mem (r m : Byte) (s : State) : (State.compare r m s).mem = s.mem := rfl
@[simp] theorem State.compare_input (r m : Byte) (s : State) : (State.compare r m s).input = s.input := rfl
@[simp] theorem State.compare_inputPos (r m : Byte) (s : State) : (State.compare r m s).inputPos = s.inputPos := rfl
@[simp] theorem State.compare_inputEnded (r m : Byte) (s : State) : (State.compare r m s).inputEnded = s.inputEnded := rfl
@[simp] theorem State.compare_output (r m : Byte) (s : State) : (State.compare r m s).output = s.output := rfl
@[simp] theorem State.compare_ioDraws (r m : Byte) (s : State) : (State.compare r m s).ioDraws = s.ioDraws := rfl
@[simp] theorem State.compare_regions (r m : Byte) (s : State) : (State.compare r m s).regions = s.regions := rfl
@[simp] theorem State.compare_decimalMode (r m : Byte) (s : State) : (State.compare r m s).decimalMode = s.decimalMode := rfl
@[simp] theorem State.compare_jmpIndWrap (r m : Byte) (s : State) : (State.compare r m s).jmpIndWrap = s.jmpIndWrap := rfl

/-! `putByte` -/

@[simp] theorem State.putByte_a (a : Addr) (v : Byte) (s : State) : (State.putByte a v s).a = s.a := rfl
@[simp] theorem State.putByte_x (a : Addr) (v : Byte) (s : State) : (State.putByte a v s).x = s.x := rfl
@[simp] theorem State.putByte_y (a : Addr) (v : Byte) (s : State) : (State.putByte a v s).y = s.y := rfl
@[simp] theorem State.putByte_sp (a : Addr) (v : Byte) (s : State) : (State.putByte a v s).sp = s.sp := rfl
@[simp] theorem State.putByte_pc (a : Addr) (v : Byte) (s : State) : (State.putByte a v s).pc = s.pc := rfl
@[simp] theorem State.putByte_flagN (a : Addr) (v : Byte) (s : State) : (State.putByte a v s).flagN = s.flagN := rfl
@[simp] theorem State.putByte_flagV (a : Addr) (v : Byte) (s : State) : (State.putByte a v s).flagV = s.flagV := rfl
@[simp] theorem State.putByte_flagB (a : Addr) (v : Byte) (s : State) : (State.putByte a v s).flagB = s.flagB := rfl
@[simp] theorem State.putByte_flagD (a : Addr) (v : Byte) (s : State) : (State.putByte a v s).flagD = s.flagD := rfl
@[simp] theorem State.putByte_flagI (a : Addr) (v : Byte) (s : State) : (State.putByte a v s).flagI = s.flagI := rfl
@[simp] theorem State.putByte_flagZ (a : Addr) (v : Byte) (s : State) : (State.putByte a v s).flagZ = s.flagZ := rfl
@[simp] theorem State.putByte_flagC (a : Addr) (v : Byte) (s : State) : (State.putByte a v s).flagC = s.flagC := rfl
@[simp] theorem State.putByte_engine (a : Addr) (v : Byte) (s : State) : (State.putByte a v s).engine = s.engine := rfl
@[simp] theorem State.putByte_mem (a : Addr) (v : Byte) (s : State) : (State.putByte a v s).mem = s.mem.put a.toNat v := rfl
@[simp] theorem State.putByte_input (a : Addr) (v : Byte) (s : State) : (State.putByte a v s).input = s.input := rfl
@[simp] theorem State.putByte_inputPos (a : Addr) (v : Byte) (s : State) : (State.putByte a v s).inputPos = s.inputPos := rfl
@[simp] theorem State.putByte_inputEnded (a : Addr) (v : Byte) (s : State) : (State.putByte a v s).inputEnded = s.inputEnded := rfl
@[simp] theorem State.putByte_output (a : Addr) (v : Byte) (s : State) : (State.putByte a v s).output = s.output := rfl
@[simp] theorem State.putByte_ioDraws (a : Addr) (v : Byte) (s : State) : (State.putByte a v s).ioDraws = s.ioDraws := rfl
@[simp] theorem State.putByte_regions (a : Addr) (v : Byte) (s : State) : (State.putByte a v s).regions = s.regions := rfl
@[simp] theorem State.putByte_decimalMode (a : Addr) (v : Byte) (s : State) : (State.putByte a v s).decimalMode = s.decimalMode := rfl
@[simp] theorem State.putByte_jmpIndWrap (a : Addr) (v : Byte) (s : State) : (State.putByte a v s).jmpIndWrap = s.jmpIndWrap := rfl

/-! `halt`, `raiseInvalidOpcode`: each writes the engine state alone. -/

@[simp] theorem State.halt_a (s : State) : s.halt.a = s.a := rfl
@[simp] theorem State.halt_x (s : State) : s.halt.x = s.x := rfl
@[simp] theorem State.halt_y (s : State) : s.halt.y = s.y := rfl
@[simp] theorem State.halt_sp (s : State) : s.halt.sp = s.sp := rfl
@[simp] theorem State.halt_pc (s : State) : s.halt.pc = s.pc := rfl
@[simp] theorem State.halt_flagN (s : State) : s.halt.flagN = s.flagN := rfl
@[simp] theorem State.halt_flagV (s : State) : s.halt.flagV = s.flagV := rfl
@[simp] theorem State.halt_flagB (s : State) : s.halt.flagB = s.flagB := rfl
@[simp] theorem State.halt_flagD (s : State) : s.halt.flagD = s.flagD := rfl
@[simp] theorem State.halt_flagI (s : State) : s.halt.flagI = s.flagI := rfl
@[simp] theorem State.halt_flagZ (s : State) : s.halt.flagZ = s.flagZ := rfl
@[simp] theorem State.halt_flagC (s : State) : s.halt.flagC = s.flagC := rfl
@[simp] theorem State.halt_engine (s : State) : s.halt.engine = .halted := rfl
@[simp] theorem State.halt_mem (s : State) : s.halt.mem = s.mem := rfl
@[simp] theorem State.halt_input (s : State) : s.halt.input = s.input := rfl
@[simp] theorem State.halt_inputPos (s : State) : s.halt.inputPos = s.inputPos := rfl
@[simp] theorem State.halt_inputEnded (s : State) : s.halt.inputEnded = s.inputEnded := rfl
@[simp] theorem State.halt_output (s : State) : s.halt.output = s.output := rfl
@[simp] theorem State.halt_ioDraws (s : State) : s.halt.ioDraws = s.ioDraws := rfl
@[simp] theorem State.halt_regions (s : State) : s.halt.regions = s.regions := rfl
@[simp] theorem State.halt_decimalMode (s : State) : s.halt.decimalMode = s.decimalMode := rfl
@[simp] theorem State.halt_jmpIndWrap (s : State) : s.halt.jmpIndWrap = s.jmpIndWrap := rfl
@[simp] theorem State.raise_a (a : Addr) (b : Byte) (s : State) : (State.raiseInvalidOpcode a b s).a = s.a := rfl
@[simp] theorem State.raise_x (a : Addr) (b : Byte) (s : State) : (State.raiseInvalidOpcode a b s).x = s.x := rfl
@[simp] theorem State.raise_y (a : Addr) (b : Byte) (s : State) : (State.raiseInvalidOpcode a b s).y = s.y := rfl
@[simp] theorem State.raise_sp (a : Addr) (b : Byte) (s : State) : (State.raiseInvalidOpcode a b s).sp = s.sp := rfl
@[simp] theorem State.raise_pc (a : Addr) (b : Byte) (s : State) : (State.raiseInvalidOpcode a b s).pc = s.pc := rfl
@[simp] theorem State.raise_flagN (a : Addr) (b : Byte) (s : State) : (State.raiseInvalidOpcode a b s).flagN = s.flagN := rfl
@[simp] theorem State.raise_flagV (a : Addr) (b : Byte) (s : State) : (State.raiseInvalidOpcode a b s).flagV = s.flagV := rfl
@[simp] theorem State.raise_flagB (a : Addr) (b : Byte) (s : State) : (State.raiseInvalidOpcode a b s).flagB = s.flagB := rfl
@[simp] theorem State.raise_flagD (a : Addr) (b : Byte) (s : State) : (State.raiseInvalidOpcode a b s).flagD = s.flagD := rfl
@[simp] theorem State.raise_flagI (a : Addr) (b : Byte) (s : State) : (State.raiseInvalidOpcode a b s).flagI = s.flagI := rfl
@[simp] theorem State.raise_flagZ (a : Addr) (b : Byte) (s : State) : (State.raiseInvalidOpcode a b s).flagZ = s.flagZ := rfl
@[simp] theorem State.raise_flagC (a : Addr) (b : Byte) (s : State) : (State.raiseInvalidOpcode a b s).flagC = s.flagC := rfl
@[simp] theorem State.raise_engine (a : Addr) (b : Byte) (s : State) : (State.raiseInvalidOpcode a b s).engine = .faulted .invalidOpcode a b := rfl
@[simp] theorem State.raise_mem (a : Addr) (b : Byte) (s : State) : (State.raiseInvalidOpcode a b s).mem = s.mem := rfl
@[simp] theorem State.raise_input (a : Addr) (b : Byte) (s : State) : (State.raiseInvalidOpcode a b s).input = s.input := rfl
@[simp] theorem State.raise_inputPos (a : Addr) (b : Byte) (s : State) : (State.raiseInvalidOpcode a b s).inputPos = s.inputPos := rfl
@[simp] theorem State.raise_inputEnded (a : Addr) (b : Byte) (s : State) : (State.raiseInvalidOpcode a b s).inputEnded = s.inputEnded := rfl
@[simp] theorem State.raise_output (a : Addr) (b : Byte) (s : State) : (State.raiseInvalidOpcode a b s).output = s.output := rfl
@[simp] theorem State.raise_ioDraws (a : Addr) (b : Byte) (s : State) : (State.raiseInvalidOpcode a b s).ioDraws = s.ioDraws := rfl
@[simp] theorem State.raise_regions (a : Addr) (b : Byte) (s : State) : (State.raiseInvalidOpcode a b s).regions = s.regions := rfl
@[simp] theorem State.raise_decimalMode (a : Addr) (b : Byte) (s : State) : (State.raiseInvalidOpcode a b s).decimalMode = s.decimalMode := rfl
@[simp] theorem State.raise_jmpIndWrap (a : Addr) (b : Byte) (s : State) : (State.raiseInvalidOpcode a b s).jmpIndWrap = s.jmpIndWrap := rfl

end Sys2Proof.Machine
end

