-- ==== Sys2Proof/Laws/Words.lean ====
section
/-! SUPPORT. The high and low bytes of an address, as numbers and as inverses of each other. -/

namespace Sys2Proof

theorem word_toNat (hi lo : Byte) : (word hi lo).toNat = hi.toNat * 256 + lo.toNat := by
  have h : (word hi lo).toNat = hi.toNat <<< 8 ||| lo.toNat := BitVec.toNat_append hi lo
  rw [h, ← Nat.shiftLeft_add_eq_or_of_lt lo.isLt, Nat.shiftLeft_eq]

theorem loByte_toNat (v : Addr) : (loByte v).toNat = v.toNat % 256 := by
  simp [loByte]

theorem hiByte_toNat (v : Addr) : (hiByte v).toNat = v.toNat / 256 := by
  have := v.isLt
  simp [hiByte, BitVec.extractLsb'_toNat, Nat.shiftRight_eq_div_pow]
  omega

@[simp] theorem word_hiByte_loByte (v : Addr) : word (hiByte v) (loByte v) = v :=
  BitVec.eq_of_toNat_eq (by rw [word_toNat, loByte_toNat, hiByte_toNat]; omega)

@[simp] theorem loByte_word (hi lo : Byte) : loByte (word hi lo) = lo :=
  BitVec.eq_of_toNat_eq (by rw [loByte_toNat, word_toNat]; have := lo.isLt; omega)

@[simp] theorem hiByte_word (hi lo : Byte) : hiByte (word hi lo) = hi :=
  BitVec.eq_of_toNat_eq (by rw [hiByte_toNat, word_toNat]; have := lo.isLt; omega)

end Sys2Proof
end

