-- ==== Sys2Proof/Laws/Access.lean ====
section
/-! SUPPORT. The memory contract, the stack and completion: one lemma each that says once everything the operation can
do. `Reads n s t` says that `t` is `s` after reads of which at most `n` took an input unit. -/

namespace Sys2Proof.Machine

/-! ### What reads leave -/

/-- `t` is `s` but for the input position, advanced by at most `n` and not past the units supplied, and the draws. -/
def Reads (n : Nat) (s t : State) : Prop :=
  ∃ k d, t = { s with inputPos := k, ioDraws := d } ∧ s.inputPos ≤ k ∧ k ≤ s.inputPos + n ∧
    (s.inputPos ≤ s.input.length → k ≤ s.input.length)

theorem Reads.refl (s : State) : Reads 0 s s := ⟨s.inputPos, s.ioDraws, rfl, le_rfl, le_rfl, id⟩

theorem Reads.mono {n m : Nat} {s t : State} (h : Reads n s t) (hnm : n ≤ m) : Reads m s t := by
  obtain ⟨k, d, rfl, h1, h2, h3⟩ := h
  exact ⟨k, d, rfl, h1, by omega, h3⟩

theorem Reads.trans {n m : Nat} {s t u : State} (h : Reads n s t) (h' : Reads m t u) : Reads (n + m) s u := by
  obtain ⟨k, d, rfl, h1, h2, h3⟩ := h
  obtain ⟨k', d', rfl, h1', h2', h3'⟩ := h'
  exact ⟨k', d', rfl, by simp at *; omega, by simp at *; omega, fun h => h3' (h3 h)⟩

/-! ### Policies and bytes under updates -/

theorem State.policy_congr {s t : State} (h : t.regions = s.regions) (a : Addr) : t.policy a = s.policy a := by
  simp [State.policy, h]

theorem State.byteAt_congr {s t : State} (h : t.mem = s.mem) (a : Addr) : t.byteAt a = s.byteAt a := by
  simp [State.byteAt, h]

theorem State.byteAt_putByte_same (s : State) (a : Addr) (v : Byte) : (s.putByte a v).byteAt a = v := by
  simp [State.byteAt, Memory.byte_put_same]

theorem State.byteAt_putByte_other (s : State) (a b : Addr) (v : Byte) (h : b ≠ a) :
    (s.putByte a v).byteAt b = s.byteAt b := by
  have : b.toNat ≠ a.toNat := fun e => h (BitVec.eq_of_toNat_eq e)
  simp [State.byteAt, Memory.byte_put_other _ _ _ _ this]

/-! ### `read` -/

/-- Everything `read` can answer. -/
theorem State.read_cases {s t : State} {a : Addr} {v : Byte} (h : s.read a = some (v, t)) :
    (s.policy a ≠ .io ∧ v = s.byteAt a ∧ t = s) ∨
    (s.policy a = .io ∧ a = consoleIn ∧ s.input[s.inputPos]? = some v ∧ t = s.consumeInput) ∨
    (s.policy a = .io ∧ a ≠ consoleIn ∧ v = Config.ioUnhandledRead s.ioDraws ∧ t = s.drawIo) := by
  unfold State.read at h
  split at h
  · rename_i hp; simp only [Option.some.injEq, Prod.mk.injEq] at h; obtain ⟨rfl, rfl⟩ := h; left; simp [hp]
  · rename_i hp; simp only [Option.some.injEq, Prod.mk.injEq] at h; obtain ⟨rfl, rfl⟩ := h; left; simp [hp]
  · rename_i hp
    split_ifs at h with ha
    · split at h
      · rename_i u hu; simp only [Option.some.injEq, Prod.mk.injEq] at h
        right; left; exact ⟨hp, ha, by rw [hu, h.1], h.2.symm⟩
      · cases h
    · simp only [Option.some.injEq, Prod.mk.injEq] at h
      right; right; exact ⟨hp, ha, h.1.symm, h.2.symm⟩

/-- A read outside the IO regions answers `Store[a]` and changes nothing (rules R55, R57, R66). -/
theorem State.read_store {s : State} {a : Addr} (h : s.policy a ≠ .io) : s.read a = some (s.byteAt a, s) := by
  unfold State.read
  split <;> first | rfl | contradiction

/-- An IO read of $D010 takes the next unit (rule R68). -/
theorem State.read_console {s : State} (h : s.policy consoleIn = .io) :
    s.read consoleIn = (s.input[s.inputPos]?).map fun u => (u, s.consumeInput) := by
  unfold State.read
  rw [h]
  simp only [if_true]
  cases s.input[s.inputPos]? <;> rfl

/-- Any other IO read is a draw (rule R70). -/
theorem State.read_draw {s : State} {a : Addr} (h : s.policy a = .io) (ha : a ≠ consoleIn) :
    s.read a = some (Config.ioUnhandledRead s.ioDraws, s.drawIo) := by
  unfold State.read
  rw [h]
  simp [ha]

/-- A read answers nothing only at $D010 with no unit available (rule R68). -/
theorem State.read_none {s : State} {a : Addr} (h : s.read a = none) :
    s.policy a = .io ∧ a = consoleIn ∧ s.input.length ≤ s.inputPos := by
  unfold State.read at h
  split at h
  · cases h
  · cases h
  · rename_i hp
    split_ifs at h with ha
    split at h
    · cases h
    · rename_i hn; exact ⟨hp, ha, List.getElem?_eq_none_iff.mp hn⟩

theorem State.read_reads {s t : State} {a : Addr} {v : Byte} (h : s.read a = some (v, t)) : Reads 1 s t := by
  rcases State.read_cases h with ⟨-, -, rfl⟩ | ⟨-, -, hu, rfl⟩ | ⟨-, -, -, rfl⟩
  · exact (Reads.refl _).mono (Nat.zero_le 1)
  · have := List.getElem?_eq_some_iff.mp hu
    exact ⟨s.inputPos + 1, s.ioDraws, rfl, by omega, le_rfl, fun _ => this.1⟩
  · exact ⟨s.inputPos, s.ioDraws + 1, rfl, le_rfl, by omega, id⟩

/-- Away from $D010 a read takes no unit and always answers. -/
theorem State.read_elsewhere (s : State) {a : Addr} (ha : a ≠ consoleIn) :
    ∃ v t, s.read a = some (v, t) ∧ Reads 0 s t := by
  by_cases h : s.policy a = .io
  · exact ⟨_, _, State.read_draw h ha, s.inputPos, s.ioDraws + 1, rfl, le_rfl, le_rfl, id⟩
  · exact ⟨_, _, State.read_store h, Reads.refl s⟩

/-- With a unit available every read answers. -/
theorem State.read_ready (s : State) (a : Addr) (h : s.inputPos < s.input.length) : ∃ v t, s.read a = some (v, t) := by
  cases hr : s.read a with
  | none => exact absurd (State.read_none hr).2.2 (by omega)
  | some p => exact ⟨p.1, p.2, rfl⟩

/-! ### `write` -/

/-- Everything `write` can do. -/
theorem State.write_cases (a : Addr) (v : Byte) (s : State) :
    (s.policy a = .ram ∧ s.write a v = s.putByte a v) ∨ (s.policy a = .rom ∧ s.write a v = s) ∨
    (s.policy a = .io ∧ a = consoleOut ∧ s.write a v = s.emit v) ∨
    (s.policy a = .io ∧ a ≠ consoleOut ∧ s.write a v = s) := by
  unfold State.write
  split
  · exact .inl ⟨‹_›, rfl⟩
  · exact .inr (.inl ⟨‹_›, rfl⟩)
  · split_ifs with ha
    · exact .inr (.inr (.inl ⟨‹_›, ha, rfl⟩))
    · exact .inr (.inr (.inr ⟨‹_›, ha, rfl⟩))

/-- `t` is `s` but for `Store` and the output stream: bytes outside RAM keep their value, the output has at most `n` new
units, and the canonical form is kept. -/
def Writes (n : Nat) (s t : State) : Prop :=
  ∃ m out, t = { s with mem := m, output := out } ∧ (∀ a : Addr, s.policy a ≠ .ram → t.byteAt a = s.byteAt a) ∧
    (∃ new, out = s.output ++ new ∧ new.length ≤ n) ∧ (s.mem.wf = true → m.wf = true)

theorem Writes.refl (s : State) : Writes 0 s s :=
  ⟨s.mem, s.output, rfl, fun _ _ => rfl, ⟨[], by simp, le_rfl⟩, id⟩

theorem State.write_writes (a : Addr) (v : Byte) (s : State) : Writes 1 s (s.write a v) := by
  rcases State.write_cases a v s with ⟨hp, h⟩ | ⟨hp, h⟩ | ⟨hp, ha, h⟩ | ⟨hp, ha, h⟩ <;> rw [h]
  · refine ⟨s.mem.put a.toNat v, s.output, rfl, fun b hb => ?_, ⟨[], by simp⟩, fun hw => ?_⟩
    · exact State.byteAt_putByte_other _ _ _ _ fun e => hb (e ▸ hp)
    · exact Memory.wf_put _ _ _ hw a.isLt
  · exact ⟨s.mem, s.output, rfl, fun _ _ => rfl, ⟨[], by simp⟩, id⟩
  · exact ⟨s.mem, s.output ++ [v], rfl, fun _ _ => rfl, ⟨[v], rfl, le_rfl⟩, id⟩
  · exact ⟨s.mem, s.output, rfl, fun _ _ => rfl, ⟨[], by simp⟩, id⟩

/-- A write changes no byte but the one at its address. -/
theorem State.byteAt_write_other (s : State) (a b : Addr) (v : Byte) (h : b ≠ a) :
    (s.write a v).byteAt b = s.byteAt b := by
  rcases State.write_cases a v s with ⟨-, e⟩ | ⟨-, e⟩ | ⟨-, -, e⟩ | ⟨-, -, e⟩ <;> rw [e]
  · exact State.byteAt_putByte_other _ _ _ _ h
  · rfl

/-- A write to RAM is read back (rules R56, R78). -/
theorem State.byteAt_write_ram (s : State) (a : Addr) (v : Byte) (h : s.policy a = .ram) :
    (s.write a v).byteAt a = v := by
  unfold State.write
  rw [h]
  exact State.byteAt_putByte_same s a v

/-! A write leaves every register, flag, stream position and parameter as it is. -/

@[simp] theorem State.write_a (a : Addr) (v : Byte) (s : State) : (s.write a v).a = s.a := by
  unfold State.write; split <;> (try split) <;> rfl
@[simp] theorem State.write_x (a : Addr) (v : Byte) (s : State) : (s.write a v).x = s.x := by
  unfold State.write; split <;> (try split) <;> rfl
@[simp] theorem State.write_y (a : Addr) (v : Byte) (s : State) : (s.write a v).y = s.y := by
  unfold State.write; split <;> (try split) <;> rfl
@[simp] theorem State.write_sp (a : Addr) (v : Byte) (s : State) : (s.write a v).sp = s.sp := by
  unfold State.write; split <;> (try split) <;> rfl
@[simp] theorem State.write_pc (a : Addr) (v : Byte) (s : State) : (s.write a v).pc = s.pc := by
  unfold State.write; split <;> (try split) <;> rfl
@[simp] theorem State.write_flagN (a : Addr) (v : Byte) (s : State) : (s.write a v).flagN = s.flagN := by
  unfold State.write; split <;> (try split) <;> rfl
@[simp] theorem State.write_flagV (a : Addr) (v : Byte) (s : State) : (s.write a v).flagV = s.flagV := by
  unfold State.write; split <;> (try split) <;> rfl
@[simp] theorem State.write_flagB (a : Addr) (v : Byte) (s : State) : (s.write a v).flagB = s.flagB := by
  unfold State.write; split <;> (try split) <;> rfl
@[simp] theorem State.write_flagD (a : Addr) (v : Byte) (s : State) : (s.write a v).flagD = s.flagD := by
  unfold State.write; split <;> (try split) <;> rfl
@[simp] theorem State.write_flagI (a : Addr) (v : Byte) (s : State) : (s.write a v).flagI = s.flagI := by
  unfold State.write; split <;> (try split) <;> rfl
@[simp] theorem State.write_flagZ (a : Addr) (v : Byte) (s : State) : (s.write a v).flagZ = s.flagZ := by
  unfold State.write; split <;> (try split) <;> rfl
@[simp] theorem State.write_flagC (a : Addr) (v : Byte) (s : State) : (s.write a v).flagC = s.flagC := by
  unfold State.write; split <;> (try split) <;> rfl
@[simp] theorem State.write_engine (a : Addr) (v : Byte) (s : State) : (s.write a v).engine = s.engine := by
  unfold State.write; split <;> (try split) <;> rfl
@[simp] theorem State.write_input (a : Addr) (v : Byte) (s : State) : (s.write a v).input = s.input := by
  unfold State.write; split <;> (try split) <;> rfl
@[simp] theorem State.write_inputPos (a : Addr) (v : Byte) (s : State) : (s.write a v).inputPos = s.inputPos := by
  unfold State.write; split <;> (try split) <;> rfl
@[simp] theorem State.write_inputEnded (a : Addr) (v : Byte) (s : State) : (s.write a v).inputEnded = s.inputEnded := by
  unfold State.write; split <;> (try split) <;> rfl
@[simp] theorem State.write_ioDraws (a : Addr) (v : Byte) (s : State) : (s.write a v).ioDraws = s.ioDraws := by
  unfold State.write; split <;> (try split) <;> rfl
@[simp] theorem State.write_regions (a : Addr) (v : Byte) (s : State) : (s.write a v).regions = s.regions := by
  unfold State.write; split <;> (try split) <;> rfl
@[simp] theorem State.write_decimalMode (a : Addr) (v : Byte) (s : State) : (s.write a v).decimalMode = s.decimalMode := by
  unfold State.write; split <;> (try split) <;> rfl
@[simp] theorem State.write_jmpIndWrap (a : Addr) (v : Byte) (s : State) : (s.write a v).jmpIndWrap = s.jmpIndWrap := by
  unfold State.write; split <;> (try split) <;> rfl

@[simp] theorem State.write_policy (a b : Addr) (v : Byte) (s : State) : (s.write a v).policy b = s.policy b :=
  State.policy_congr (State.write_regions a v s) b

/-! ### Pairs and the stack -/

theorem State.readPair_cases {s t : State} {a b p : Addr} (h : s.readPair a b = some (p, t)) :
    ∃ lo hi u, s.read a = some (lo, u) ∧ u.read b = some (hi, t) ∧ p = word hi lo := by
  unfold State.readPair at h
  cases ha : s.read a with
  | none => simp [ha] at h
  | some q =>
    cases hb : q.2.read b with
    | none => simp [ha, hb] at h
    | some r =>
      simp only [ha, hb, Option.bind_some, Option.map_some, Option.some.injEq, Prod.mk.injEq] at h
      exact ⟨q.1, r.1, q.2, rfl, by rw [hb, ← h.2], h.1.symm⟩

theorem State.readPair_reads {s t : State} {a b p : Addr} (h : s.readPair a b = some (p, t)) : Reads 2 s t := by
  obtain ⟨_, _, _, h1, h2, -⟩ := State.readPair_cases h
  exact (State.read_reads h1).trans (State.read_reads h2)

theorem State.readPair_of {s t u : State} {a b : Addr} {lo hi : Byte} (ha : s.read a = some (lo, u))
    (hb : u.read b = some (hi, t)) : s.readPair a b = some (word hi lo, t) := by
  simp [State.readPair, ha, hb]

/-- The stack page is $0100 to $01FF (rule R24): never the console. -/
theorem stackAddr_toNat (sp : Byte) : (stackAddr sp).toNat = 256 + sp.toNat := by
  simp [stackAddr, word_toNat]

theorem stackAddr_ne_consoleIn (sp : Byte) : stackAddr sp ≠ consoleIn := fun h => by
  have := congrArg BitVec.toNat h
  rw [stackAddr_toNat] at this
  have := sp.isLt
  simp [consoleIn] at *
  omega

theorem stackAddr_ne_consoleOut (sp : Byte) : stackAddr sp ≠ consoleOut := fun h => by
  have := congrArg BitVec.toNat h
  rw [stackAddr_toNat] at this
  have := sp.isLt
  simp [consoleOut] at *
  omega

theorem stackAddr_injective {p q : Byte} (h : stackAddr p = stackAddr q) : p = q := by
  have := congrArg BitVec.toNat h
  rw [stackAddr_toNat, stackAddr_toNat] at this
  exact BitVec.eq_of_toNat_eq (by omega)

/-- A pull always answers, takes no input unit, and moves SP up by one (rule R31). -/
theorem State.pull_answers (s : State) : ∃ v t, s.pull = some (v, t) ∧ Reads 0 (s.setSP (s.sp + 1)) t :=
  State.read_elsewhere _ (stackAddr_ne_consoleIn _)

theorem State.pull_cases {s t : State} {v : Byte} (h : s.pull = some (v, t)) :
    (s.setSP (s.sp + 1)).read (stackAddr (s.sp + 1)) = some (v, t) ∧ Reads 0 (s.setSP (s.sp + 1)) t := by
  obtain ⟨v', t', h', hr⟩ := State.pull_answers s
  rw [h] at h'
  cases h'
  exact ⟨h, hr⟩

theorem State.pullWord_cases {s t : State} {p : Addr} (h : s.pullWord = some (p, t)) :
    ∃ lo hi u, s.pull = some (lo, u) ∧ u.pull = some (hi, t) ∧ p = word hi lo := by
  unfold State.pullWord at h
  cases ha : s.pull with
  | none => simp [ha] at h
  | some q =>
    cases hb : q.2.pull with
    | none => simp [ha, hb] at h
    | some r =>
      simp only [ha, hb, Option.bind_some, Option.map_some, Option.some.injEq, Prod.mk.injEq] at h
      exact ⟨q.1, r.1, q.2, rfl, by rw [hb, ← h.2], h.1.symm⟩

theorem State.pullWord_of {s t u : State} {lo hi : Byte} (ha : s.pull = some (lo, u)) (hb : u.pull = some (hi, t)) :
    s.pullWord = some (word hi lo, t) := by
  simp [State.pullWord, ha, hb]

theorem State.pullWord_answers (s : State) : ∃ p t, s.pullWord = some (p, t) := by
  obtain ⟨lo, u, h1, -⟩ := State.pull_answers s
  obtain ⟨hi, t, h2, -⟩ := State.pull_answers u
  exact ⟨_, _, State.pullWord_of h1 h2⟩

/-- A push changes no byte but the one at the stack address. -/
theorem State.byteAt_push_other (s : State) (v : Byte) (b : Addr) (h : b ≠ stackAddr s.sp) :
    (s.push v).byteAt b = s.byteAt b :=
  State.byteAt_write_other s _ b v h

/-- The stack page holds no output address, so a push emits nothing. -/
theorem State.push_output (s : State) (v : Byte) : (s.push v).output = s.output := by
  rcases State.write_cases (stackAddr s.sp) v s with ⟨-, e⟩ | ⟨-, e⟩ | ⟨-, ha, e⟩ | ⟨-, -, e⟩
  · simp [State.push, e]
  · simp [State.push, e]
  · exact absurd ha (stackAddr_ne_consoleOut _)
  · simp [State.push, e]

@[simp] theorem State.push_sp (s : State) (v : Byte) : (s.push v).sp = s.sp - 1 := rfl

@[simp] theorem State.push_a (v : Byte) (s : State) : (s.push v).a = s.a := State.write_a _ _ _
@[simp] theorem State.push_x (v : Byte) (s : State) : (s.push v).x = s.x := State.write_x _ _ _
@[simp] theorem State.push_y (v : Byte) (s : State) : (s.push v).y = s.y := State.write_y _ _ _
@[simp] theorem State.push_pc (v : Byte) (s : State) : (s.push v).pc = s.pc := State.write_pc _ _ _
@[simp] theorem State.push_flagN (v : Byte) (s : State) : (s.push v).flagN = s.flagN := State.write_flagN _ _ _
@[simp] theorem State.push_flagV (v : Byte) (s : State) : (s.push v).flagV = s.flagV := State.write_flagV _ _ _
@[simp] theorem State.push_flagB (v : Byte) (s : State) : (s.push v).flagB = s.flagB := State.write_flagB _ _ _
@[simp] theorem State.push_flagD (v : Byte) (s : State) : (s.push v).flagD = s.flagD := State.write_flagD _ _ _
@[simp] theorem State.push_flagI (v : Byte) (s : State) : (s.push v).flagI = s.flagI := State.write_flagI _ _ _
@[simp] theorem State.push_flagZ (v : Byte) (s : State) : (s.push v).flagZ = s.flagZ := State.write_flagZ _ _ _
@[simp] theorem State.push_flagC (v : Byte) (s : State) : (s.push v).flagC = s.flagC := State.write_flagC _ _ _
@[simp] theorem State.push_engine (v : Byte) (s : State) : (s.push v).engine = s.engine := State.write_engine _ _ _
@[simp] theorem State.push_input (v : Byte) (s : State) : (s.push v).input = s.input := State.write_input _ _ _
@[simp] theorem State.push_inputPos (v : Byte) (s : State) : (s.push v).inputPos = s.inputPos := State.write_inputPos _ _ _
@[simp] theorem State.push_inputEnded (v : Byte) (s : State) : (s.push v).inputEnded = s.inputEnded := State.write_inputEnded _ _ _
@[simp] theorem State.push_ioDraws (v : Byte) (s : State) : (s.push v).ioDraws = s.ioDraws := State.write_ioDraws _ _ _
@[simp] theorem State.push_regions (v : Byte) (s : State) : (s.push v).regions = s.regions := State.write_regions _ _ _
@[simp] theorem State.push_decimalMode (v : Byte) (s : State) : (s.push v).decimalMode = s.decimalMode := State.write_decimalMode _ _ _
@[simp] theorem State.push_jmpIndWrap (v : Byte) (s : State) : (s.push v).jmpIndWrap = s.jmpIndWrap := State.write_jmpIndWrap _ _ _

/-! A write does not look at SP, and a pull does not look at the flags. -/

theorem State.write_setSP (a : Addr) (v sp : Byte) (s : State) : (s.setSP sp).write a v = (s.write a v).setSP sp := by
  unfold State.write
  rw [State.policy_congr (s := s) (t := s.setSP sp) rfl]
  split <;> (try split) <;> rfl

theorem State.pull_loadStatus (p : Byte) (s : State) :
    (s.loadStatus p).pull = s.pull.map fun q => (q.1, q.2.loadStatus p) := by
  have e : (s.loadStatus p).sp = s.sp := rfl
  unfold State.pull
  rw [e]
  by_cases h : (s.setSP (s.sp + 1)).policy (stackAddr (s.sp + 1)) = .io
  · rw [State.read_draw (s := s.setSP (s.sp + 1)) h (stackAddr_ne_consoleIn _),
      State.read_draw (s := (s.loadStatus p).setSP (s.sp + 1)) h (stackAddr_ne_consoleIn _)]
    rfl
  · rw [State.read_store (s := s.setSP (s.sp + 1)) h, State.read_store (s := (s.loadStatus p).setSP (s.sp + 1)) h]
    rfl

/-! ### Completion -/

@[simp] theorem complete_some (t : State) : complete (some t) = .next t := rfl
@[simp] theorem complete_none : complete none = .fault .inputAwaited := rfl

theorem complete_next {o : Option State} {t : State} : complete o = .next t ↔ o = some t := by
  cases o <;> simp

theorem complete_ne_refused (o : Option State) (r : Refusal) : complete o ≠ .refused r := by
  cases o <;> simp

@[simp] theorem settle_next (s t : State) : settle s (.next t) = .next t := rfl
@[simp] theorem settle_inputAwaited (s : State) : settle s (.fault .inputAwaited) = .next s := rfl

theorem settle_cases {s t : State} {r : Result} (h : settle s r = .next t) :
    r = .next t ∨ (r = .fault .inputAwaited ∧ t = s) := by
  cases r with
  | next u => left; simpa using h
  | fault f => cases f; right; exact ⟨rfl, by simpa using h.symm⟩
  | refused q => cases h

end Sys2Proof.Machine
end

