-- ==== Sys2Proof/Laws/Arms.lean ====
section
/-! SUPPORT. The arm of `exec` for each instruction whose meaning is one line over a shared operation, so that a proof
by cases on the instruction goes on with the operation. -/

namespace Sys2Proof.Machine

theorem exec_ldaImm (v : Byte) (s : State) : exec (.ldaImm v) s = loadA (.immediate v) s := rfl
theorem exec_ldaZp (zp : Byte) (s : State) : exec (.ldaZp zp) s = loadA (.memory (.zeroPage zp)) s := rfl
theorem exec_ldaZpX (zp : Byte) (s : State) : exec (.ldaZpX zp) s = loadA (.memory (.zeroPageX zp)) s := rfl
theorem exec_ldaAbs (addr : Addr) (s : State) : exec (.ldaAbs addr) s = loadA (.memory (.absolute addr)) s := rfl
theorem exec_ldaAbsX (addr : Addr) (s : State) : exec (.ldaAbsX addr) s = loadA (.memory (.absoluteX addr)) s := rfl
theorem exec_ldaAbsY (addr : Addr) (s : State) : exec (.ldaAbsY addr) s = loadA (.memory (.absoluteY addr)) s := rfl
theorem exec_ldaIndX (zp : Byte) (s : State) : exec (.ldaIndX zp) s = loadA (.memory (.indirectX zp)) s := rfl
theorem exec_ldaIndY (zp : Byte) (s : State) : exec (.ldaIndY zp) s = loadA (.memory (.indirectY zp)) s := rfl
theorem exec_ldxImm (v : Byte) (s : State) : exec (.ldxImm v) s = loadX (.immediate v) s := rfl
theorem exec_ldxZp (zp : Byte) (s : State) : exec (.ldxZp zp) s = loadX (.memory (.zeroPage zp)) s := rfl
theorem exec_ldxZpY (zp : Byte) (s : State) : exec (.ldxZpY zp) s = loadX (.memory (.zeroPageY zp)) s := rfl
theorem exec_ldxAbs (addr : Addr) (s : State) : exec (.ldxAbs addr) s = loadX (.memory (.absolute addr)) s := rfl
theorem exec_ldxAbsY (addr : Addr) (s : State) : exec (.ldxAbsY addr) s = loadX (.memory (.absoluteY addr)) s := rfl
theorem exec_ldyImm (v : Byte) (s : State) : exec (.ldyImm v) s = loadY (.immediate v) s := rfl
theorem exec_ldyZp (zp : Byte) (s : State) : exec (.ldyZp zp) s = loadY (.memory (.zeroPage zp)) s := rfl
theorem exec_ldyZpX (zp : Byte) (s : State) : exec (.ldyZpX zp) s = loadY (.memory (.zeroPageX zp)) s := rfl
theorem exec_ldyAbs (addr : Addr) (s : State) : exec (.ldyAbs addr) s = loadY (.memory (.absolute addr)) s := rfl
theorem exec_ldyAbsX (addr : Addr) (s : State) : exec (.ldyAbsX addr) s = loadY (.memory (.absoluteX addr)) s := rfl
theorem exec_staZp (zp : Byte) (s : State) : exec (.staZp zp) s = storeA (.zeroPage zp) s := rfl
theorem exec_staZpX (zp : Byte) (s : State) : exec (.staZpX zp) s = storeA (.zeroPageX zp) s := rfl
theorem exec_staAbs (addr : Addr) (s : State) : exec (.staAbs addr) s = storeA (.absolute addr) s := rfl
theorem exec_staAbsX (addr : Addr) (s : State) : exec (.staAbsX addr) s = storeA (.absoluteX addr) s := rfl
theorem exec_staAbsY (addr : Addr) (s : State) : exec (.staAbsY addr) s = storeA (.absoluteY addr) s := rfl
theorem exec_staIndX (zp : Byte) (s : State) : exec (.staIndX zp) s = storeA (.indirectX zp) s := rfl
theorem exec_staIndY (zp : Byte) (s : State) : exec (.staIndY zp) s = storeA (.indirectY zp) s := rfl
theorem exec_stxZp (zp : Byte) (s : State) : exec (.stxZp zp) s = storeX (.zeroPage zp) s := rfl
theorem exec_stxZpY (zp : Byte) (s : State) : exec (.stxZpY zp) s = storeX (.zeroPageY zp) s := rfl
theorem exec_stxAbs (addr : Addr) (s : State) : exec (.stxAbs addr) s = storeX (.absolute addr) s := rfl
theorem exec_styZp (zp : Byte) (s : State) : exec (.styZp zp) s = storeY (.zeroPage zp) s := rfl
theorem exec_styZpX (zp : Byte) (s : State) : exec (.styZpX zp) s = storeY (.zeroPageX zp) s := rfl
theorem exec_styAbs (addr : Addr) (s : State) : exec (.styAbs addr) s = storeY (.absolute addr) s := rfl
theorem exec_adcImm (v : Byte) (s : State) : exec (.adcImm v) s = addWithCarry (.immediate v) s := rfl
theorem exec_adcZp (zp : Byte) (s : State) : exec (.adcZp zp) s = addWithCarry (.memory (.zeroPage zp)) s := rfl
theorem exec_adcZpX (zp : Byte) (s : State) : exec (.adcZpX zp) s = addWithCarry (.memory (.zeroPageX zp)) s := rfl
theorem exec_adcAbs (addr : Addr) (s : State) : exec (.adcAbs addr) s = addWithCarry (.memory (.absolute addr)) s := rfl
theorem exec_adcAbsX (addr : Addr) (s : State) : exec (.adcAbsX addr) s = addWithCarry (.memory (.absoluteX addr)) s := rfl
theorem exec_adcAbsY (addr : Addr) (s : State) : exec (.adcAbsY addr) s = addWithCarry (.memory (.absoluteY addr)) s := rfl
theorem exec_adcIndX (zp : Byte) (s : State) : exec (.adcIndX zp) s = addWithCarry (.memory (.indirectX zp)) s := rfl
theorem exec_adcIndY (zp : Byte) (s : State) : exec (.adcIndY zp) s = addWithCarry (.memory (.indirectY zp)) s := rfl
theorem exec_sbcImm (v : Byte) (s : State) : exec (.sbcImm v) s = subWithBorrow (.immediate v) s := rfl
theorem exec_sbcZp (zp : Byte) (s : State) : exec (.sbcZp zp) s = subWithBorrow (.memory (.zeroPage zp)) s := rfl
theorem exec_sbcZpX (zp : Byte) (s : State) : exec (.sbcZpX zp) s = subWithBorrow (.memory (.zeroPageX zp)) s := rfl
theorem exec_sbcAbs (addr : Addr) (s : State) : exec (.sbcAbs addr) s = subWithBorrow (.memory (.absolute addr)) s := rfl
theorem exec_sbcAbsX (addr : Addr) (s : State) : exec (.sbcAbsX addr) s = subWithBorrow (.memory (.absoluteX addr)) s := rfl
theorem exec_sbcAbsY (addr : Addr) (s : State) : exec (.sbcAbsY addr) s = subWithBorrow (.memory (.absoluteY addr)) s := rfl
theorem exec_sbcIndX (zp : Byte) (s : State) : exec (.sbcIndX zp) s = subWithBorrow (.memory (.indirectX zp)) s := rfl
theorem exec_sbcIndY (zp : Byte) (s : State) : exec (.sbcIndY zp) s = subWithBorrow (.memory (.indirectY zp)) s := rfl
theorem exec_andImm (v : Byte) (s : State) : exec (.andImm v) s = andA (.immediate v) s := rfl
theorem exec_andZp (zp : Byte) (s : State) : exec (.andZp zp) s = andA (.memory (.zeroPage zp)) s := rfl
theorem exec_andZpX (zp : Byte) (s : State) : exec (.andZpX zp) s = andA (.memory (.zeroPageX zp)) s := rfl
theorem exec_andAbs (addr : Addr) (s : State) : exec (.andAbs addr) s = andA (.memory (.absolute addr)) s := rfl
theorem exec_andAbsX (addr : Addr) (s : State) : exec (.andAbsX addr) s = andA (.memory (.absoluteX addr)) s := rfl
theorem exec_andAbsY (addr : Addr) (s : State) : exec (.andAbsY addr) s = andA (.memory (.absoluteY addr)) s := rfl
theorem exec_andIndX (zp : Byte) (s : State) : exec (.andIndX zp) s = andA (.memory (.indirectX zp)) s := rfl
theorem exec_andIndY (zp : Byte) (s : State) : exec (.andIndY zp) s = andA (.memory (.indirectY zp)) s := rfl
theorem exec_oraImm (v : Byte) (s : State) : exec (.oraImm v) s = orA (.immediate v) s := rfl
theorem exec_oraZp (zp : Byte) (s : State) : exec (.oraZp zp) s = orA (.memory (.zeroPage zp)) s := rfl
theorem exec_oraZpX (zp : Byte) (s : State) : exec (.oraZpX zp) s = orA (.memory (.zeroPageX zp)) s := rfl
theorem exec_oraAbs (addr : Addr) (s : State) : exec (.oraAbs addr) s = orA (.memory (.absolute addr)) s := rfl
theorem exec_oraAbsX (addr : Addr) (s : State) : exec (.oraAbsX addr) s = orA (.memory (.absoluteX addr)) s := rfl
theorem exec_oraAbsY (addr : Addr) (s : State) : exec (.oraAbsY addr) s = orA (.memory (.absoluteY addr)) s := rfl
theorem exec_oraIndX (zp : Byte) (s : State) : exec (.oraIndX zp) s = orA (.memory (.indirectX zp)) s := rfl
theorem exec_oraIndY (zp : Byte) (s : State) : exec (.oraIndY zp) s = orA (.memory (.indirectY zp)) s := rfl
theorem exec_eorImm (v : Byte) (s : State) : exec (.eorImm v) s = xorA (.immediate v) s := rfl
theorem exec_eorZp (zp : Byte) (s : State) : exec (.eorZp zp) s = xorA (.memory (.zeroPage zp)) s := rfl
theorem exec_eorZpX (zp : Byte) (s : State) : exec (.eorZpX zp) s = xorA (.memory (.zeroPageX zp)) s := rfl
theorem exec_eorAbs (addr : Addr) (s : State) : exec (.eorAbs addr) s = xorA (.memory (.absolute addr)) s := rfl
theorem exec_eorAbsX (addr : Addr) (s : State) : exec (.eorAbsX addr) s = xorA (.memory (.absoluteX addr)) s := rfl
theorem exec_eorAbsY (addr : Addr) (s : State) : exec (.eorAbsY addr) s = xorA (.memory (.absoluteY addr)) s := rfl
theorem exec_eorIndX (zp : Byte) (s : State) : exec (.eorIndX zp) s = xorA (.memory (.indirectX zp)) s := rfl
theorem exec_eorIndY (zp : Byte) (s : State) : exec (.eorIndY zp) s = xorA (.memory (.indirectY zp)) s := rfl
theorem exec_bitZp (zp : Byte) (s : State) : exec (.bitZp zp) s = testBits (.memory (.zeroPage zp)) s := rfl
theorem exec_bitAbs (addr : Addr) (s : State) : exec (.bitAbs addr) s = testBits (.memory (.absolute addr)) s := rfl
theorem exec_cmpImm (v : Byte) (s : State) : exec (.cmpImm v) s = compareA (.immediate v) s := rfl
theorem exec_cmpZp (zp : Byte) (s : State) : exec (.cmpZp zp) s = compareA (.memory (.zeroPage zp)) s := rfl
theorem exec_cmpZpX (zp : Byte) (s : State) : exec (.cmpZpX zp) s = compareA (.memory (.zeroPageX zp)) s := rfl
theorem exec_cmpAbs (addr : Addr) (s : State) : exec (.cmpAbs addr) s = compareA (.memory (.absolute addr)) s := rfl
theorem exec_cmpAbsX (addr : Addr) (s : State) : exec (.cmpAbsX addr) s = compareA (.memory (.absoluteX addr)) s := rfl
theorem exec_cmpAbsY (addr : Addr) (s : State) : exec (.cmpAbsY addr) s = compareA (.memory (.absoluteY addr)) s := rfl
theorem exec_cmpIndX (zp : Byte) (s : State) : exec (.cmpIndX zp) s = compareA (.memory (.indirectX zp)) s := rfl
theorem exec_cmpIndY (zp : Byte) (s : State) : exec (.cmpIndY zp) s = compareA (.memory (.indirectY zp)) s := rfl
theorem exec_cpxImm (v : Byte) (s : State) : exec (.cpxImm v) s = compareX (.immediate v) s := rfl
theorem exec_cpxZp (zp : Byte) (s : State) : exec (.cpxZp zp) s = compareX (.memory (.zeroPage zp)) s := rfl
theorem exec_cpxAbs (addr : Addr) (s : State) : exec (.cpxAbs addr) s = compareX (.memory (.absolute addr)) s := rfl
theorem exec_cpyImm (v : Byte) (s : State) : exec (.cpyImm v) s = compareY (.immediate v) s := rfl
theorem exec_cpyZp (zp : Byte) (s : State) : exec (.cpyZp zp) s = compareY (.memory (.zeroPage zp)) s := rfl
theorem exec_cpyAbs (addr : Addr) (s : State) : exec (.cpyAbs addr) s = compareY (.memory (.absolute addr)) s := rfl
theorem exec_incZp (zp : Byte) (s : State) : exec (.incZp zp) s = increment (.memory (.zeroPage zp)) s := rfl
theorem exec_incZpX (zp : Byte) (s : State) : exec (.incZpX zp) s = increment (.memory (.zeroPageX zp)) s := rfl
theorem exec_incAbs (addr : Addr) (s : State) : exec (.incAbs addr) s = increment (.memory (.absolute addr)) s := rfl
theorem exec_incAbsX (addr : Addr) (s : State) : exec (.incAbsX addr) s = increment (.memory (.absoluteX addr)) s := rfl
theorem exec_decZp (zp : Byte) (s : State) : exec (.decZp zp) s = decrement (.memory (.zeroPage zp)) s := rfl
theorem exec_decZpX (zp : Byte) (s : State) : exec (.decZpX zp) s = decrement (.memory (.zeroPageX zp)) s := rfl
theorem exec_decAbs (addr : Addr) (s : State) : exec (.decAbs addr) s = decrement (.memory (.absolute addr)) s := rfl
theorem exec_decAbsX (addr : Addr) (s : State) : exec (.decAbsX addr) s = decrement (.memory (.absoluteX addr)) s := rfl
theorem exec_aslAcc (s : State) : exec .aslAcc s = shiftLeft .accumulator s := rfl
theorem exec_aslZp (zp : Byte) (s : State) : exec (.aslZp zp) s = shiftLeft (.memory (.zeroPage zp)) s := rfl
theorem exec_aslZpX (zp : Byte) (s : State) : exec (.aslZpX zp) s = shiftLeft (.memory (.zeroPageX zp)) s := rfl
theorem exec_aslAbs (addr : Addr) (s : State) : exec (.aslAbs addr) s = shiftLeft (.memory (.absolute addr)) s := rfl
theorem exec_aslAbsX (addr : Addr) (s : State) : exec (.aslAbsX addr) s = shiftLeft (.memory (.absoluteX addr)) s := rfl
theorem exec_lsrAcc (s : State) : exec .lsrAcc s = shiftRight .accumulator s := rfl
theorem exec_lsrZp (zp : Byte) (s : State) : exec (.lsrZp zp) s = shiftRight (.memory (.zeroPage zp)) s := rfl
theorem exec_lsrZpX (zp : Byte) (s : State) : exec (.lsrZpX zp) s = shiftRight (.memory (.zeroPageX zp)) s := rfl
theorem exec_lsrAbs (addr : Addr) (s : State) : exec (.lsrAbs addr) s = shiftRight (.memory (.absolute addr)) s := rfl
theorem exec_lsrAbsX (addr : Addr) (s : State) : exec (.lsrAbsX addr) s = shiftRight (.memory (.absoluteX addr)) s := rfl
theorem exec_rolAcc (s : State) : exec .rolAcc s = rotateLeft .accumulator s := rfl
theorem exec_rolZp (zp : Byte) (s : State) : exec (.rolZp zp) s = rotateLeft (.memory (.zeroPage zp)) s := rfl
theorem exec_rolZpX (zp : Byte) (s : State) : exec (.rolZpX zp) s = rotateLeft (.memory (.zeroPageX zp)) s := rfl
theorem exec_rolAbs (addr : Addr) (s : State) : exec (.rolAbs addr) s = rotateLeft (.memory (.absolute addr)) s := rfl
theorem exec_rolAbsX (addr : Addr) (s : State) : exec (.rolAbsX addr) s = rotateLeft (.memory (.absoluteX addr)) s := rfl
theorem exec_rorAcc (s : State) : exec .rorAcc s = rotateRight .accumulator s := rfl
theorem exec_rorZp (zp : Byte) (s : State) : exec (.rorZp zp) s = rotateRight (.memory (.zeroPage zp)) s := rfl
theorem exec_rorZpX (zp : Byte) (s : State) : exec (.rorZpX zp) s = rotateRight (.memory (.zeroPageX zp)) s := rfl
theorem exec_rorAbs (addr : Addr) (s : State) : exec (.rorAbs addr) s = rotateRight (.memory (.absolute addr)) s := rfl
theorem exec_rorAbsX (addr : Addr) (s : State) : exec (.rorAbsX addr) s = rotateRight (.memory (.absoluteX addr)) s := rfl

end Sys2Proof.Machine
end

