-- ==== Sys2Proof/Laws/Fetch.lean ====
section
/-! SUPPORT. Fetching and loading: what one byte fetched leaves, every outcome of the fetch and decode phases, and that
placing bytes keeps the canonical form of `Store`. -/

namespace Sys2Proof.Machine

/-- A byte fetched is one read at PC, then PC moves on (rule R120). -/
theorem fetchByte_cases {s t : State} {v : Byte} (h : fetchByte s = some (v, t)) :
    ∃ u, s.read s.pc = some (v, u) ∧ t = u.setPC (u.pc + 1) := by
  obtain ⟨p, h1, h2⟩ := Option.map_eq_some_iff.mp h
  cases h2
  exact ⟨p.2, h1, rfl⟩

theorem fetchByte_pc {s t : State} {v : Byte} (h : fetchByte s = some (v, t)) : t.pc = s.pc + 1 := by
  obtain ⟨u, h1, rfl⟩ := fetchByte_cases h
  obtain ⟨k, d, rfl, -⟩ := State.read_reads h1
  rfl

/-- A byte fetched outside the IO regions only moves PC. -/
theorem fetchByte_store {s : State} (h : s.policy s.pc ≠ .io) :
    fetchByte s = some (s.byteAt s.pc, s.setPC (s.pc + 1)) := by
  simp [fetchByte, State.read_store h]

/-- No instruction has more than two operand bytes (rule R94). -/
theorem operandCount_le (d : Descriptor) : d.operandCount ≤ 2 := by
  unfold Descriptor.operandCount
  cases d.mode <;> decide

/-- An instruction fetched is the one its opcode's descriptor and the operand bytes after it decode to. -/
theorem fetchInstr_instr {s t : State} {i : Instr} (h : fetchInstr s = .instr i t) :
    ∃ op s1 d bs r, fetchByte s = some (op, s1) ∧ descriptor op = some d ∧
      fetchBytes d.operandCount s1 = some (bs, t) ∧ decode (op :: bs) = .ok (i, r) := by
  unfold fetchInstr at h
  split at h
  · cases h
  · rename_i op s1 h1
    split at h
    · rename_i d hd
      unfold fetchOperands at h
      split at h
      · cases h
      · rename_i bs u hb
        split at h
        · rename_i r hdec
          cases h
          exact ⟨op, s1, d, bs, r, h1, hd, hb, hdec⟩
        · cases h
    · cases h

/-- Every outcome of a step that answers: an instruction executed, an instruction that awaits input, an invalid opcode,
or nothing done. -/
theorem step_cases {s t : State} (h : step s = .next t) :
    (∃ i u, s.engine = .running ∧ fetchInstr s = .instr i u ∧ (exec i u = .next t ∨
      (exec i u = .fault .inputAwaited ∧ t = s))) ∨
    (s.engine = .running ∧ fetchInstr s = .invalidOpcode t) ∨ t = s := by
  unfold step at h
  split at h
  · split at h
    · exact .inl ⟨_, _, ‹_›, ‹_›, settle_cases h⟩
    · cases h; exact .inr (.inl ⟨‹_›, ‹_›⟩)
    · cases h; exact .inr (.inr rfl)
  · cases h; exact .inr (.inr rfl)
  · cases h; exact .inr (.inr rfl)

theorem State.wf_putByte (a : Addr) (v : Byte) (s : State) (h : s.mem.wf = true) : (s.putByte a v).mem.wf = true :=
  Memory.wf_put _ _ _ h a.isLt

theorem wf_placeBytes (bs : List Byte) (a : Addr) (s : State) (h : s.mem.wf = true) :
    (placeBytes bs a s).mem.wf = true := by
  induction bs generalizing a s with
  | nil => exact h
  | cons b rest ih => exact ih (a + 1) _ (s.wf_putByte a b h)

theorem wf_loadBytes (bs : List Byte) (a : Nat) (s t : State) (h : s.mem.wf = true) (ht : loadBytes bs a s = some t) :
    t.mem.wf = true := by
  induction bs generalizing a s with
  | nil => cases ht; exact h
  | cons b rest ih =>
    simp only [loadBytes] at ht
    split_ifs at ht
    obtain ⟨u, hu, hr⟩ := Option.bind_eq_some_iff.mp ht
    refine ih (a + 1) u ?_ hr
    unfold loadWrite at hu
    split at hu
    · cases hu
    all_goals cases hu; exact s.wf_putByte _ b h

/-- Placing a table word keeps the canonical form too. -/
theorem wf_withFetchWord (s : State) (nbits w : Nat) (h : s.mem.wf = true) :
    (s.withFetchWord nbits w).mem.wf = true := wf_placeBytes _ _ _ h

end Sys2Proof.Machine
end

