-- ==== Sys2Proof/Laws/Operands.lean ====
section
/-! SUPPORT. Operand resolution and the three shapes of instruction built on it: what each answers, and what it can
change. -/

namespace Sys2Proof.Machine

/-! ### Page zero -/

theorem zeroPageAddr_toNat (zp : Byte) : (zeroPageAddr zp).toNat = zp.toNat := by
  have := zp.isLt
  simp only [zeroPageAddr, BitVec.toNat_setWidth]
  omega

theorem zeroPageAddr_ne_consoleIn (zp : Byte) : zeroPageAddr zp ≠ consoleIn := fun h => by
  have := congrArg BitVec.toNat h
  rw [zeroPageAddr_toNat] at this
  have := zp.isLt
  simp [consoleIn] at *
  omega

/-- A pointer read always answers and takes no input unit. -/
theorem zeroPagePointer_answers (p : Byte) (s : State) :
    ∃ a t, zeroPagePointer p s = some (a, t) ∧ Reads 0 s t := by
  obtain ⟨lo, u, h1, r1⟩ := State.read_elsewhere s (zeroPageAddr_ne_consoleIn p)
  obtain ⟨hi, t, h2, r2⟩ := State.read_elsewhere u (zeroPageAddr_ne_consoleIn (p + 1))
  exact ⟨_, _, State.readPair_of h1 h2, r1.trans r2⟩

/-- A pointer in a page zero that is not IO is its two bytes in `Store` (rule R134). -/
theorem zeroPagePointer_store {p : Byte} {s : State} (h1 : s.policy (zeroPageAddr p) ≠ .io)
    (h2 : s.policy (zeroPageAddr (p + 1)) ≠ .io) :
    zeroPagePointer p s = some (word (s.byteAt (zeroPageAddr (p + 1))) (s.byteAt (zeroPageAddr p)), s) :=
  State.readPair_of (State.read_store h1) (State.read_store h2)

/-! ### Effective addresses -/

/-- Resolution of a memory operand always answers and takes no input unit: it reads page zero at most. -/
theorem effectiveAddress_answers (m : MemOperand) (s : State) :
    ∃ a t, effectiveAddress m s = some (a, t) ∧ Reads 0 s t := by
  cases m with
  | zeroPage zp => exact ⟨_, _, rfl, Reads.refl s⟩
  | zeroPageX zp => exact ⟨_, _, rfl, Reads.refl s⟩
  | zeroPageY zp => exact ⟨_, _, rfl, Reads.refl s⟩
  | absolute addr => exact ⟨_, _, rfl, Reads.refl s⟩
  | absoluteX addr => exact ⟨_, _, rfl, Reads.refl s⟩
  | absoluteY addr => exact ⟨_, _, rfl, Reads.refl s⟩
  | indirectX zp => exact zeroPagePointer_answers _ s
  | indirectY zp =>
    obtain ⟨a, t, h, r⟩ := zeroPagePointer_answers zp s
    exact ⟨a + s.y.setWidth 16, t, by simp [effectiveAddress, h], r⟩

theorem effectiveAddress_reads {m : MemOperand} {s t : State} {a : Addr} (h : effectiveAddress m s = some (a, t)) :
    Reads 0 s t := by
  obtain ⟨a', t', h', r⟩ := effectiveAddress_answers m s
  rw [h] at h'
  cases h'
  exact r

/-! ### Read instructions -/

theorem sourceValue_reads {src : Source} {s t : State} {v : Byte} (h : sourceValue src s = some (v, t)) :
    Reads 1 s t := by
  cases src with
  | immediate w => cases h; exact (Reads.refl s).mono (Nat.zero_le 1)
  | memory m =>
    obtain ⟨a, u, h', r⟩ := effectiveAddress_answers m s
    simp only [sourceValue, h', Option.bind_some] at h
    exact r.trans (State.read_reads h)

/-- A read instruction answers exactly when its operand does. -/
theorem withSource_next {src : Source} {f : Byte → State → State} {s t : State} :
    withSource src f s = .next t ↔ ∃ v u, sourceValue src s = some (v, u) ∧ t = f v u := by
  simp only [withSource, complete_next, Option.map_eq_some_iff, Prod.exists]
  exact ⟨fun ⟨v, u, h, e⟩ => ⟨v, u, h, e.symm⟩, fun ⟨v, u, h, e⟩ => ⟨v, u, h, e.symm⟩⟩

theorem withSource_of {src : Source} {s u : State} {v : Byte} (f : Byte → State → State)
    (h : sourceValue src s = some (v, u)) : withSource src f s = .next (f v u) :=
  withSource_next.mpr ⟨v, u, h, rfl⟩

/-! ### Store instructions -/

/-- A store instruction always answers: one write to its effective address. -/
theorem storeReg_next {m : MemOperand} {reg : State → Byte} {s t : State} :
    storeReg m reg s = .next t ↔ ∃ a u, effectiveAddress m s = some (a, u) ∧ t = u.write a (reg u) := by
  simp only [storeReg, complete_next, Option.map_eq_some_iff, Prod.exists]
  exact ⟨fun ⟨v, u, h, e⟩ => ⟨v, u, h, e.symm⟩, fun ⟨v, u, h, e⟩ => ⟨v, u, h, e.symm⟩⟩

/-! ### Shift and RMW instructions -/

/-- What a shift or RMW instruction does with register A. -/
theorem modify_accumulator (f : Byte → Bool → Byte × (State → State)) (s : State) :
    modify .accumulator f s = .next ((f s.a s.flagC).2 (s.setA (f s.a s.flagC).1)) := rfl

/-- What a shift or RMW instruction does with a memory byte: one read, then one write of the same address. -/
theorem modify_memory {m : MemOperand} {s t : State} {f : Byte → Bool → Byte × (State → State)} :
    modify (.memory m) f s = .next t ↔ ∃ a u v w, effectiveAddress m s = some (a, u) ∧ u.read a = some (v, w) ∧
      t = (f v w.flagC).2 (w.write a (f v w.flagC).1) := by
  simp only [modify, complete_next, resolveTarget, Option.bind_eq_some_iff, Option.map_eq_some_iff, Prod.exists]
  constructor
  · rintro ⟨_, _, ⟨a, u, ha, e⟩, v, w, hv, ht⟩
    obtain ⟨rfl, rfl⟩ := Prod.mk.inj e
    exact ⟨a, u, v, w, ha, hv, ht.symm⟩
  · rintro ⟨a, u, v, w, ha, hv, ht⟩
    exact ⟨_, _, ⟨a, u, ha, rfl⟩, v, w, hv, ht.symm⟩

end Sys2Proof.Machine
end

