-- ==== Sys2Proof/Laws/PerInstr.lean ====
section
/-! SUPPORT. The family `Listed`: what the descriptor table and the encoder say of each instruction of the table
(30_encoding.md rules R93, R94, R96, R97). -/

namespace Sys2Proof.Laws.Listed

/-- The instruction is well formed, the descriptor of its opcode byte names its mnemonic and its mode, and its encoding
has one byte more than the descriptor's operand count. -/
def Statement (i : Instr) : Prop :=
  i.wf = true ∧ (descriptor i.opcode).map (fun d => (d.mnemonic, d.mode)) = some (i.mnemonic, i.mode)
    ∧ (encode i).length = 1 + i.mode.operandCount

theorem ldaImm (v : Byte) : Statement (.ldaImm v) := ⟨rfl, rfl, rfl⟩
theorem ldaZp (zp : Byte) : Statement (.ldaZp zp) := ⟨rfl, rfl, rfl⟩
theorem ldaZpX (zp : Byte) : Statement (.ldaZpX zp) := ⟨rfl, rfl, rfl⟩
theorem ldaAbs (addr : Addr) : Statement (.ldaAbs addr) := ⟨rfl, rfl, rfl⟩
theorem ldaAbsX (addr : Addr) : Statement (.ldaAbsX addr) := ⟨rfl, rfl, rfl⟩
theorem ldaAbsY (addr : Addr) : Statement (.ldaAbsY addr) := ⟨rfl, rfl, rfl⟩
theorem ldaIndX (zp : Byte) : Statement (.ldaIndX zp) := ⟨rfl, rfl, rfl⟩
theorem ldaIndY (zp : Byte) : Statement (.ldaIndY zp) := ⟨rfl, rfl, rfl⟩
theorem ldxImm (v : Byte) : Statement (.ldxImm v) := ⟨rfl, rfl, rfl⟩
theorem ldxZp (zp : Byte) : Statement (.ldxZp zp) := ⟨rfl, rfl, rfl⟩
theorem ldxZpY (zp : Byte) : Statement (.ldxZpY zp) := ⟨rfl, rfl, rfl⟩
theorem ldxAbs (addr : Addr) : Statement (.ldxAbs addr) := ⟨rfl, rfl, rfl⟩
theorem ldxAbsY (addr : Addr) : Statement (.ldxAbsY addr) := ⟨rfl, rfl, rfl⟩
theorem ldyImm (v : Byte) : Statement (.ldyImm v) := ⟨rfl, rfl, rfl⟩
theorem ldyZp (zp : Byte) : Statement (.ldyZp zp) := ⟨rfl, rfl, rfl⟩
theorem ldyZpX (zp : Byte) : Statement (.ldyZpX zp) := ⟨rfl, rfl, rfl⟩
theorem ldyAbs (addr : Addr) : Statement (.ldyAbs addr) := ⟨rfl, rfl, rfl⟩
theorem ldyAbsX (addr : Addr) : Statement (.ldyAbsX addr) := ⟨rfl, rfl, rfl⟩
theorem staZp (zp : Byte) : Statement (.staZp zp) := ⟨rfl, rfl, rfl⟩
theorem staZpX (zp : Byte) : Statement (.staZpX zp) := ⟨rfl, rfl, rfl⟩
theorem staAbs (addr : Addr) : Statement (.staAbs addr) := ⟨rfl, rfl, rfl⟩
theorem staAbsX (addr : Addr) : Statement (.staAbsX addr) := ⟨rfl, rfl, rfl⟩
theorem staAbsY (addr : Addr) : Statement (.staAbsY addr) := ⟨rfl, rfl, rfl⟩
theorem staIndX (zp : Byte) : Statement (.staIndX zp) := ⟨rfl, rfl, rfl⟩
theorem staIndY (zp : Byte) : Statement (.staIndY zp) := ⟨rfl, rfl, rfl⟩
theorem stxZp (zp : Byte) : Statement (.stxZp zp) := ⟨rfl, rfl, rfl⟩
theorem stxZpY (zp : Byte) : Statement (.stxZpY zp) := ⟨rfl, rfl, rfl⟩
theorem stxAbs (addr : Addr) : Statement (.stxAbs addr) := ⟨rfl, rfl, rfl⟩
theorem styZp (zp : Byte) : Statement (.styZp zp) := ⟨rfl, rfl, rfl⟩
theorem styZpX (zp : Byte) : Statement (.styZpX zp) := ⟨rfl, rfl, rfl⟩
theorem styAbs (addr : Addr) : Statement (.styAbs addr) := ⟨rfl, rfl, rfl⟩
theorem tax : Statement .tax := ⟨rfl, rfl, rfl⟩
theorem tay : Statement .tay := ⟨rfl, rfl, rfl⟩
theorem tsx : Statement .tsx := ⟨rfl, rfl, rfl⟩
theorem txa : Statement .txa := ⟨rfl, rfl, rfl⟩
theorem txs : Statement .txs := ⟨rfl, rfl, rfl⟩
theorem tya : Statement .tya := ⟨rfl, rfl, rfl⟩
theorem pha : Statement .pha := ⟨rfl, rfl, rfl⟩
theorem php : Statement .php := ⟨rfl, rfl, rfl⟩
theorem pla : Statement .pla := ⟨rfl, rfl, rfl⟩
theorem plp : Statement .plp := ⟨rfl, rfl, rfl⟩
theorem adcImm (v : Byte) : Statement (.adcImm v) := ⟨rfl, rfl, rfl⟩
theorem adcZp (zp : Byte) : Statement (.adcZp zp) := ⟨rfl, rfl, rfl⟩
theorem adcZpX (zp : Byte) : Statement (.adcZpX zp) := ⟨rfl, rfl, rfl⟩
theorem adcAbs (addr : Addr) : Statement (.adcAbs addr) := ⟨rfl, rfl, rfl⟩
theorem adcAbsX (addr : Addr) : Statement (.adcAbsX addr) := ⟨rfl, rfl, rfl⟩
theorem adcAbsY (addr : Addr) : Statement (.adcAbsY addr) := ⟨rfl, rfl, rfl⟩
theorem adcIndX (zp : Byte) : Statement (.adcIndX zp) := ⟨rfl, rfl, rfl⟩
theorem adcIndY (zp : Byte) : Statement (.adcIndY zp) := ⟨rfl, rfl, rfl⟩
theorem sbcImm (v : Byte) : Statement (.sbcImm v) := ⟨rfl, rfl, rfl⟩
theorem sbcZp (zp : Byte) : Statement (.sbcZp zp) := ⟨rfl, rfl, rfl⟩
theorem sbcZpX (zp : Byte) : Statement (.sbcZpX zp) := ⟨rfl, rfl, rfl⟩
theorem sbcAbs (addr : Addr) : Statement (.sbcAbs addr) := ⟨rfl, rfl, rfl⟩
theorem sbcAbsX (addr : Addr) : Statement (.sbcAbsX addr) := ⟨rfl, rfl, rfl⟩
theorem sbcAbsY (addr : Addr) : Statement (.sbcAbsY addr) := ⟨rfl, rfl, rfl⟩
theorem sbcIndX (zp : Byte) : Statement (.sbcIndX zp) := ⟨rfl, rfl, rfl⟩
theorem sbcIndY (zp : Byte) : Statement (.sbcIndY zp) := ⟨rfl, rfl, rfl⟩
theorem andImm (v : Byte) : Statement (.andImm v) := ⟨rfl, rfl, rfl⟩
theorem andZp (zp : Byte) : Statement (.andZp zp) := ⟨rfl, rfl, rfl⟩
theorem andZpX (zp : Byte) : Statement (.andZpX zp) := ⟨rfl, rfl, rfl⟩
theorem andAbs (addr : Addr) : Statement (.andAbs addr) := ⟨rfl, rfl, rfl⟩
theorem andAbsX (addr : Addr) : Statement (.andAbsX addr) := ⟨rfl, rfl, rfl⟩
theorem andAbsY (addr : Addr) : Statement (.andAbsY addr) := ⟨rfl, rfl, rfl⟩
theorem andIndX (zp : Byte) : Statement (.andIndX zp) := ⟨rfl, rfl, rfl⟩
theorem andIndY (zp : Byte) : Statement (.andIndY zp) := ⟨rfl, rfl, rfl⟩
theorem oraImm (v : Byte) : Statement (.oraImm v) := ⟨rfl, rfl, rfl⟩
theorem oraZp (zp : Byte) : Statement (.oraZp zp) := ⟨rfl, rfl, rfl⟩
theorem oraZpX (zp : Byte) : Statement (.oraZpX zp) := ⟨rfl, rfl, rfl⟩
theorem oraAbs (addr : Addr) : Statement (.oraAbs addr) := ⟨rfl, rfl, rfl⟩
theorem oraAbsX (addr : Addr) : Statement (.oraAbsX addr) := ⟨rfl, rfl, rfl⟩
theorem oraAbsY (addr : Addr) : Statement (.oraAbsY addr) := ⟨rfl, rfl, rfl⟩
theorem oraIndX (zp : Byte) : Statement (.oraIndX zp) := ⟨rfl, rfl, rfl⟩
theorem oraIndY (zp : Byte) : Statement (.oraIndY zp) := ⟨rfl, rfl, rfl⟩
theorem eorImm (v : Byte) : Statement (.eorImm v) := ⟨rfl, rfl, rfl⟩
theorem eorZp (zp : Byte) : Statement (.eorZp zp) := ⟨rfl, rfl, rfl⟩
theorem eorZpX (zp : Byte) : Statement (.eorZpX zp) := ⟨rfl, rfl, rfl⟩
theorem eorAbs (addr : Addr) : Statement (.eorAbs addr) := ⟨rfl, rfl, rfl⟩
theorem eorAbsX (addr : Addr) : Statement (.eorAbsX addr) := ⟨rfl, rfl, rfl⟩
theorem eorAbsY (addr : Addr) : Statement (.eorAbsY addr) := ⟨rfl, rfl, rfl⟩
theorem eorIndX (zp : Byte) : Statement (.eorIndX zp) := ⟨rfl, rfl, rfl⟩
theorem eorIndY (zp : Byte) : Statement (.eorIndY zp) := ⟨rfl, rfl, rfl⟩
theorem bitZp (zp : Byte) : Statement (.bitZp zp) := ⟨rfl, rfl, rfl⟩
theorem bitAbs (addr : Addr) : Statement (.bitAbs addr) := ⟨rfl, rfl, rfl⟩
theorem cmpImm (v : Byte) : Statement (.cmpImm v) := ⟨rfl, rfl, rfl⟩
theorem cmpZp (zp : Byte) : Statement (.cmpZp zp) := ⟨rfl, rfl, rfl⟩
theorem cmpZpX (zp : Byte) : Statement (.cmpZpX zp) := ⟨rfl, rfl, rfl⟩
theorem cmpAbs (addr : Addr) : Statement (.cmpAbs addr) := ⟨rfl, rfl, rfl⟩
theorem cmpAbsX (addr : Addr) : Statement (.cmpAbsX addr) := ⟨rfl, rfl, rfl⟩
theorem cmpAbsY (addr : Addr) : Statement (.cmpAbsY addr) := ⟨rfl, rfl, rfl⟩
theorem cmpIndX (zp : Byte) : Statement (.cmpIndX zp) := ⟨rfl, rfl, rfl⟩
theorem cmpIndY (zp : Byte) : Statement (.cmpIndY zp) := ⟨rfl, rfl, rfl⟩
theorem cpxImm (v : Byte) : Statement (.cpxImm v) := ⟨rfl, rfl, rfl⟩
theorem cpxZp (zp : Byte) : Statement (.cpxZp zp) := ⟨rfl, rfl, rfl⟩
theorem cpxAbs (addr : Addr) : Statement (.cpxAbs addr) := ⟨rfl, rfl, rfl⟩
theorem cpyImm (v : Byte) : Statement (.cpyImm v) := ⟨rfl, rfl, rfl⟩
theorem cpyZp (zp : Byte) : Statement (.cpyZp zp) := ⟨rfl, rfl, rfl⟩
theorem cpyAbs (addr : Addr) : Statement (.cpyAbs addr) := ⟨rfl, rfl, rfl⟩
theorem incZp (zp : Byte) : Statement (.incZp zp) := ⟨rfl, rfl, rfl⟩
theorem incZpX (zp : Byte) : Statement (.incZpX zp) := ⟨rfl, rfl, rfl⟩
theorem incAbs (addr : Addr) : Statement (.incAbs addr) := ⟨rfl, rfl, rfl⟩
theorem incAbsX (addr : Addr) : Statement (.incAbsX addr) := ⟨rfl, rfl, rfl⟩
theorem inx : Statement .inx := ⟨rfl, rfl, rfl⟩
theorem iny : Statement .iny := ⟨rfl, rfl, rfl⟩
theorem decZp (zp : Byte) : Statement (.decZp zp) := ⟨rfl, rfl, rfl⟩
theorem decZpX (zp : Byte) : Statement (.decZpX zp) := ⟨rfl, rfl, rfl⟩
theorem decAbs (addr : Addr) : Statement (.decAbs addr) := ⟨rfl, rfl, rfl⟩
theorem decAbsX (addr : Addr) : Statement (.decAbsX addr) := ⟨rfl, rfl, rfl⟩
theorem dex : Statement .dex := ⟨rfl, rfl, rfl⟩
theorem dey : Statement .dey := ⟨rfl, rfl, rfl⟩
theorem aslAcc : Statement .aslAcc := ⟨rfl, rfl, rfl⟩
theorem aslZp (zp : Byte) : Statement (.aslZp zp) := ⟨rfl, rfl, rfl⟩
theorem aslZpX (zp : Byte) : Statement (.aslZpX zp) := ⟨rfl, rfl, rfl⟩
theorem aslAbs (addr : Addr) : Statement (.aslAbs addr) := ⟨rfl, rfl, rfl⟩
theorem aslAbsX (addr : Addr) : Statement (.aslAbsX addr) := ⟨rfl, rfl, rfl⟩
theorem lsrAcc : Statement .lsrAcc := ⟨rfl, rfl, rfl⟩
theorem lsrZp (zp : Byte) : Statement (.lsrZp zp) := ⟨rfl, rfl, rfl⟩
theorem lsrZpX (zp : Byte) : Statement (.lsrZpX zp) := ⟨rfl, rfl, rfl⟩
theorem lsrAbs (addr : Addr) : Statement (.lsrAbs addr) := ⟨rfl, rfl, rfl⟩
theorem lsrAbsX (addr : Addr) : Statement (.lsrAbsX addr) := ⟨rfl, rfl, rfl⟩
theorem rolAcc : Statement .rolAcc := ⟨rfl, rfl, rfl⟩
theorem rolZp (zp : Byte) : Statement (.rolZp zp) := ⟨rfl, rfl, rfl⟩
theorem rolZpX (zp : Byte) : Statement (.rolZpX zp) := ⟨rfl, rfl, rfl⟩
theorem rolAbs (addr : Addr) : Statement (.rolAbs addr) := ⟨rfl, rfl, rfl⟩
theorem rolAbsX (addr : Addr) : Statement (.rolAbsX addr) := ⟨rfl, rfl, rfl⟩
theorem rorAcc : Statement .rorAcc := ⟨rfl, rfl, rfl⟩
theorem rorZp (zp : Byte) : Statement (.rorZp zp) := ⟨rfl, rfl, rfl⟩
theorem rorZpX (zp : Byte) : Statement (.rorZpX zp) := ⟨rfl, rfl, rfl⟩
theorem rorAbs (addr : Addr) : Statement (.rorAbs addr) := ⟨rfl, rfl, rfl⟩
theorem rorAbsX (addr : Addr) : Statement (.rorAbsX addr) := ⟨rfl, rfl, rfl⟩
theorem jmpAbs (addr : Addr) : Statement (.jmpAbs addr) := ⟨rfl, rfl, rfl⟩
theorem jmpInd (ptr : Addr) : Statement (.jmpInd ptr) := ⟨rfl, rfl, rfl⟩
theorem jsr (addr : Addr) : Statement (.jsr addr) := ⟨rfl, rfl, rfl⟩
theorem rts : Statement .rts := ⟨rfl, rfl, rfl⟩
theorem rti : Statement .rti := ⟨rfl, rfl, rfl⟩
theorem bcc (disp : Byte) : Statement (.bcc disp) := ⟨rfl, rfl, rfl⟩
theorem bcs (disp : Byte) : Statement (.bcs disp) := ⟨rfl, rfl, rfl⟩
theorem beq (disp : Byte) : Statement (.beq disp) := ⟨rfl, rfl, rfl⟩
theorem bmi (disp : Byte) : Statement (.bmi disp) := ⟨rfl, rfl, rfl⟩
theorem bne (disp : Byte) : Statement (.bne disp) := ⟨rfl, rfl, rfl⟩
theorem bpl (disp : Byte) : Statement (.bpl disp) := ⟨rfl, rfl, rfl⟩
theorem bvc (disp : Byte) : Statement (.bvc disp) := ⟨rfl, rfl, rfl⟩
theorem bvs (disp : Byte) : Statement (.bvs disp) := ⟨rfl, rfl, rfl⟩
theorem clc : Statement .clc := ⟨rfl, rfl, rfl⟩
theorem cld : Statement .cld := ⟨rfl, rfl, rfl⟩
theorem cli : Statement .cli := ⟨rfl, rfl, rfl⟩
theorem clv : Statement .clv := ⟨rfl, rfl, rfl⟩
theorem sec : Statement .sec := ⟨rfl, rfl, rfl⟩
theorem sed : Statement .sed := ⟨rfl, rfl, rfl⟩
theorem sei : Statement .sei := ⟨rfl, rfl, rfl⟩
theorem nop : Statement .nop := ⟨rfl, rfl, rfl⟩
theorem brk : Statement .brk := ⟨rfl, rfl, rfl⟩

end Sys2Proof.Laws.Listed
end

