-- ==== Sys2Proof/Laws/Run.lean ====
section
/-! SUPPORT. A run unrolled: it stays where the engine has ended and goes on by one step while the engine is running. -/

namespace Sys2Proof.Machine

/-- A state has no report exactly while the engine is running (rules R325, R326). -/
theorem endReport_eq_none {s : State} : endReport s = none ↔ s.engine = .running := by
  unfold endReport
  split <;> simp_all

theorem runToEnd_ended {s : State} {r : Report} (n : Nat) (h : endReport s = some r) : runToEnd n s = some (r, s) := by
  cases n <;> simp [runToEnd, h]

theorem runToEnd_running {s t : State} (n : Nat) (h : s.engine = .running) (ht : step s = .next t) :
    runToEnd (n + 1) s = runToEnd n t := by
  simp [runToEnd, endReport_eq_none.mpr h, ht]

theorem runSteps_step {s t : State} (n : Nat) (ht : step s = .next t) : runSteps (n + 1) s = runSteps n t := by
  simp [runSteps, ht]

theorem loadAndRun_launched {regions : List Region} {source : Text} {start : Option Addr} {s : State}
    (input : List Byte) (n : Nat) (h : launch regions source start = .ok s) :
    loadAndRun regions source start input n = (runToEnd n (supplyInput input s)).map fun p => .ended p.1 p.2 := by
  simp [loadAndRun, h]

theorem loadAndRun_refused {regions : List Region} {source : Text} {start : Option Addr} {e : LaunchError}
    (input : List Byte) (n : Nat) (h : launch regions source start = .error e) :
    loadAndRun regions source start input n = some (.notStarted e) := by
  simp [loadAndRun, h]

end Sys2Proof.Machine
end

