-- ==== Sys2Proof/Tests/Slice0.lean ====
section
/-! SUPPORT. Tests, each about one operation or one step, with results taken from spec/ (the vector's name in
95_test_vectors.md stands in the comment), and a witness for the hypotheses of each statement. Words are written out
from the encodings of opcode_table.json with the operands $42 and $1234. -/

open Sys2Proof Sys2Proof.Machine Sys2Proof.Claims

namespace Sys2Proof.Tests

/-! ## Well-formedness: each check refuses an ill-formed pair -/

theorem test_wf_accepts : Mnemonic.hasMode .lda .immediate = true ∧ Mnemonic.hasMode .stx .zeroPageY = true ∧
    (Instr.jmpInd 0x1234).wf = true := by decide

/-- R97: the modes the families do not have. -/
theorem test_wf_refuses_loads_stores : Mnemonic.hasMode .sta .immediate = false ∧ Mnemonic.hasMode .ldx .zeroPageX = false ∧
    Mnemonic.hasMode .stx .absoluteY = false ∧ Mnemonic.hasMode .sty .zeroPageY = false ∧
    Mnemonic.hasMode .lda .indirect = false := by decide

theorem test_wf_refuses_implied : Mnemonic.hasMode .nop .zeroPage = false ∧ Mnemonic.hasMode .brk .immediate = false ∧
    Mnemonic.hasMode .inx .accumulator = false ∧ Mnemonic.hasMode .lda .implied = false := by decide

theorem test_wf_refuses_arith_logic : Mnemonic.hasMode .bit .immediate = false ∧ Mnemonic.hasMode .cpx .zeroPageX = false ∧
    Mnemonic.hasMode .cpy .absoluteY = false ∧ Mnemonic.hasMode .adc .zeroPageY = false := by decide

theorem test_wf_refuses_rmw : Mnemonic.hasMode .inc .accumulator = false ∧ Mnemonic.hasMode .asl .absoluteY = false ∧
    Mnemonic.hasMode .ror .immediate = false := by decide

theorem test_wf_refuses_control : Mnemonic.hasMode .jmp .zeroPage = false ∧ Mnemonic.hasMode .jsr .indirect = false ∧
    Mnemonic.hasMode .bne .absolute = false ∧ Mnemonic.hasMode .lda .relative = false := by decide

/-- R65: an overlapping set, a set out of bounds and an empty region are refused. -/
theorem test_regionsWf_refuses : regionsWf [⟨0xD000, 0x1000, .io⟩, ⟨0xD800, 0x101, .rom⟩] = false ∧
    regionsWf [⟨0xF000, 0x2000, .ram⟩] = false ∧ regionsWf [⟨0xC000, 0, .ram⟩] = false := by decide

/-- The canonical form of `Store`: a list that does not rise, and an address outside the space, are refused. -/
theorem test_memory_wf_refuses : Memory.wf [(2, 0x01), (1, 0x02)] = false ∧ Memory.wf [(1, 0x01), (1, 0x02)] = false ∧
    Memory.wf [(65536, 0x00)] = false ∧ Memory.wf [(0, 0x01), (65535, 0x02)] = true := by decide

/-! ## Decoding: every constructor's word -/

theorem test_decode_brk : decodeTableWord 8 0x00 = some .brk := by decide

theorem test_decode_ora :
    decodeTableWord 16 0x4201 = some (.oraIndX 0x42) ∧ decodeTableWord 16 0x4205 = some (.oraZp 0x42) ∧
    decodeTableWord 16 0x4209 = some (.oraImm 0x42) ∧ decodeTableWord 24 0x12340D = some (.oraAbs 0x1234) ∧
    decodeTableWord 16 0x4211 = some (.oraIndY 0x42) ∧ decodeTableWord 16 0x4215 = some (.oraZpX 0x42) ∧
    decodeTableWord 24 0x123419 = some (.oraAbsY 0x1234) ∧ decodeTableWord 24 0x12341D = some (.oraAbsX 0x1234) := by decide

theorem test_decode_asl :
    decodeTableWord 16 0x4206 = some (.aslZp 0x42) ∧ decodeTableWord 8 0x0A = some .aslAcc ∧
    decodeTableWord 24 0x12340E = some (.aslAbs 0x1234) ∧ decodeTableWord 16 0x4216 = some (.aslZpX 0x42) ∧
    decodeTableWord 24 0x12341E = some (.aslAbsX 0x1234) := by decide

theorem test_decode_php : decodeTableWord 8 0x08 = some .php := by decide

theorem test_decode_bpl : decodeTableWord 16 0x4210 = some (.bpl 0x42) := by decide

theorem test_decode_clc : decodeTableWord 8 0x18 = some .clc := by decide

theorem test_decode_jsr : decodeTableWord 24 0x123420 = some (.jsr 0x1234) := by decide

theorem test_decode_and :
    decodeTableWord 16 0x4221 = some (.andIndX 0x42) ∧ decodeTableWord 16 0x4225 = some (.andZp 0x42) ∧
    decodeTableWord 16 0x4229 = some (.andImm 0x42) ∧ decodeTableWord 24 0x12342D = some (.andAbs 0x1234) ∧
    decodeTableWord 16 0x4231 = some (.andIndY 0x42) ∧ decodeTableWord 16 0x4235 = some (.andZpX 0x42) ∧
    decodeTableWord 24 0x123439 = some (.andAbsY 0x1234) ∧ decodeTableWord 24 0x12343D = some (.andAbsX 0x1234) := by decide

theorem test_decode_bit :
    decodeTableWord 16 0x4224 = some (.bitZp 0x42) ∧ decodeTableWord 24 0x12342C = some (.bitAbs 0x1234) := by decide

theorem test_decode_rol :
    decodeTableWord 16 0x4226 = some (.rolZp 0x42) ∧ decodeTableWord 8 0x2A = some .rolAcc ∧
    decodeTableWord 24 0x12342E = some (.rolAbs 0x1234) ∧ decodeTableWord 16 0x4236 = some (.rolZpX 0x42) ∧
    decodeTableWord 24 0x12343E = some (.rolAbsX 0x1234) := by decide

theorem test_decode_plp : decodeTableWord 8 0x28 = some .plp := by decide

theorem test_decode_bmi : decodeTableWord 16 0x4230 = some (.bmi 0x42) := by decide

theorem test_decode_sec : decodeTableWord 8 0x38 = some .sec := by decide

theorem test_decode_rti : decodeTableWord 8 0x40 = some .rti := by decide

theorem test_decode_eor :
    decodeTableWord 16 0x4241 = some (.eorIndX 0x42) ∧ decodeTableWord 16 0x4245 = some (.eorZp 0x42) ∧
    decodeTableWord 16 0x4249 = some (.eorImm 0x42) ∧ decodeTableWord 24 0x12344D = some (.eorAbs 0x1234) ∧
    decodeTableWord 16 0x4251 = some (.eorIndY 0x42) ∧ decodeTableWord 16 0x4255 = some (.eorZpX 0x42) ∧
    decodeTableWord 24 0x123459 = some (.eorAbsY 0x1234) ∧ decodeTableWord 24 0x12345D = some (.eorAbsX 0x1234) := by decide

theorem test_decode_lsr :
    decodeTableWord 16 0x4246 = some (.lsrZp 0x42) ∧ decodeTableWord 8 0x4A = some .lsrAcc ∧
    decodeTableWord 24 0x12344E = some (.lsrAbs 0x1234) ∧ decodeTableWord 16 0x4256 = some (.lsrZpX 0x42) ∧
    decodeTableWord 24 0x12345E = some (.lsrAbsX 0x1234) := by decide

theorem test_decode_pha : decodeTableWord 8 0x48 = some .pha := by decide

theorem test_decode_jmp :
    decodeTableWord 24 0x12344C = some (.jmpAbs 0x1234) ∧ decodeTableWord 24 0x12346C = some (.jmpInd 0x1234) := by decide

theorem test_decode_bvc : decodeTableWord 16 0x4250 = some (.bvc 0x42) := by decide

theorem test_decode_cli : decodeTableWord 8 0x58 = some .cli := by decide

theorem test_decode_rts : decodeTableWord 8 0x60 = some .rts := by decide

theorem test_decode_adc :
    decodeTableWord 16 0x4261 = some (.adcIndX 0x42) ∧ decodeTableWord 16 0x4265 = some (.adcZp 0x42) ∧
    decodeTableWord 16 0x4269 = some (.adcImm 0x42) ∧ decodeTableWord 24 0x12346D = some (.adcAbs 0x1234) ∧
    decodeTableWord 16 0x4271 = some (.adcIndY 0x42) ∧ decodeTableWord 16 0x4275 = some (.adcZpX 0x42) ∧
    decodeTableWord 24 0x123479 = some (.adcAbsY 0x1234) ∧ decodeTableWord 24 0x12347D = some (.adcAbsX 0x1234) := by decide

theorem test_decode_ror :
    decodeTableWord 16 0x4266 = some (.rorZp 0x42) ∧ decodeTableWord 8 0x6A = some .rorAcc ∧
    decodeTableWord 24 0x12346E = some (.rorAbs 0x1234) ∧ decodeTableWord 16 0x4276 = some (.rorZpX 0x42) ∧
    decodeTableWord 24 0x12347E = some (.rorAbsX 0x1234) := by decide

theorem test_decode_pla : decodeTableWord 8 0x68 = some .pla := by decide

theorem test_decode_bvs : decodeTableWord 16 0x4270 = some (.bvs 0x42) := by decide

theorem test_decode_sei : decodeTableWord 8 0x78 = some .sei := by decide

theorem test_decode_sta :
    decodeTableWord 16 0x4281 = some (.staIndX 0x42) ∧ decodeTableWord 16 0x4285 = some (.staZp 0x42) ∧
    decodeTableWord 24 0x12348D = some (.staAbs 0x1234) ∧ decodeTableWord 16 0x4291 = some (.staIndY 0x42) ∧
    decodeTableWord 16 0x4295 = some (.staZpX 0x42) ∧ decodeTableWord 24 0x123499 = some (.staAbsY 0x1234) ∧
    decodeTableWord 24 0x12349D = some (.staAbsX 0x1234) := by decide

theorem test_decode_sty :
    decodeTableWord 16 0x4284 = some (.styZp 0x42) ∧ decodeTableWord 24 0x12348C = some (.styAbs 0x1234) ∧
    decodeTableWord 16 0x4294 = some (.styZpX 0x42) := by decide

theorem test_decode_stx :
    decodeTableWord 16 0x4286 = some (.stxZp 0x42) ∧ decodeTableWord 24 0x12348E = some (.stxAbs 0x1234) ∧
    decodeTableWord 16 0x4296 = some (.stxZpY 0x42) := by decide

theorem test_decode_dey : decodeTableWord 8 0x88 = some .dey := by decide

theorem test_decode_txa : decodeTableWord 8 0x8A = some .txa := by decide

theorem test_decode_bcc : decodeTableWord 16 0x4290 = some (.bcc 0x42) := by decide

theorem test_decode_tya : decodeTableWord 8 0x98 = some .tya := by decide

theorem test_decode_txs : decodeTableWord 8 0x9A = some .txs := by decide

theorem test_decode_ldy :
    decodeTableWord 16 0x42A0 = some (.ldyImm 0x42) ∧ decodeTableWord 16 0x42A4 = some (.ldyZp 0x42) ∧
    decodeTableWord 24 0x1234AC = some (.ldyAbs 0x1234) ∧ decodeTableWord 16 0x42B4 = some (.ldyZpX 0x42) ∧
    decodeTableWord 24 0x1234BC = some (.ldyAbsX 0x1234) := by decide

theorem test_decode_lda :
    decodeTableWord 16 0x42A1 = some (.ldaIndX 0x42) ∧ decodeTableWord 16 0x42A5 = some (.ldaZp 0x42) ∧
    decodeTableWord 16 0x42A9 = some (.ldaImm 0x42) ∧ decodeTableWord 24 0x1234AD = some (.ldaAbs 0x1234) ∧
    decodeTableWord 16 0x42B1 = some (.ldaIndY 0x42) ∧ decodeTableWord 16 0x42B5 = some (.ldaZpX 0x42) ∧
    decodeTableWord 24 0x1234B9 = some (.ldaAbsY 0x1234) ∧ decodeTableWord 24 0x1234BD = some (.ldaAbsX 0x1234) := by decide

theorem test_decode_ldx :
    decodeTableWord 16 0x42A2 = some (.ldxImm 0x42) ∧ decodeTableWord 16 0x42A6 = some (.ldxZp 0x42) ∧
    decodeTableWord 24 0x1234AE = some (.ldxAbs 0x1234) ∧ decodeTableWord 16 0x42B6 = some (.ldxZpY 0x42) ∧
    decodeTableWord 24 0x1234BE = some (.ldxAbsY 0x1234) := by decide

theorem test_decode_tay : decodeTableWord 8 0xA8 = some .tay := by decide

theorem test_decode_tax : decodeTableWord 8 0xAA = some .tax := by decide

theorem test_decode_bcs : decodeTableWord 16 0x42B0 = some (.bcs 0x42) := by decide

theorem test_decode_clv : decodeTableWord 8 0xB8 = some .clv := by decide

theorem test_decode_tsx : decodeTableWord 8 0xBA = some .tsx := by decide

theorem test_decode_cpy :
    decodeTableWord 16 0x42C0 = some (.cpyImm 0x42) ∧ decodeTableWord 16 0x42C4 = some (.cpyZp 0x42) ∧
    decodeTableWord 24 0x1234CC = some (.cpyAbs 0x1234) := by decide

theorem test_decode_cmp :
    decodeTableWord 16 0x42C1 = some (.cmpIndX 0x42) ∧ decodeTableWord 16 0x42C5 = some (.cmpZp 0x42) ∧
    decodeTableWord 16 0x42C9 = some (.cmpImm 0x42) ∧ decodeTableWord 24 0x1234CD = some (.cmpAbs 0x1234) ∧
    decodeTableWord 16 0x42D1 = some (.cmpIndY 0x42) ∧ decodeTableWord 16 0x42D5 = some (.cmpZpX 0x42) ∧
    decodeTableWord 24 0x1234D9 = some (.cmpAbsY 0x1234) ∧ decodeTableWord 24 0x1234DD = some (.cmpAbsX 0x1234) := by decide

theorem test_decode_dec :
    decodeTableWord 16 0x42C6 = some (.decZp 0x42) ∧ decodeTableWord 24 0x1234CE = some (.decAbs 0x1234) ∧
    decodeTableWord 16 0x42D6 = some (.decZpX 0x42) ∧ decodeTableWord 24 0x1234DE = some (.decAbsX 0x1234) := by decide

theorem test_decode_iny : decodeTableWord 8 0xC8 = some .iny := by decide

theorem test_decode_dex : decodeTableWord 8 0xCA = some .dex := by decide

theorem test_decode_bne : decodeTableWord 16 0x42D0 = some (.bne 0x42) := by decide

theorem test_decode_cld : decodeTableWord 8 0xD8 = some .cld := by decide

theorem test_decode_cpx :
    decodeTableWord 16 0x42E0 = some (.cpxImm 0x42) ∧ decodeTableWord 16 0x42E4 = some (.cpxZp 0x42) ∧
    decodeTableWord 24 0x1234EC = some (.cpxAbs 0x1234) := by decide

theorem test_decode_sbc :
    decodeTableWord 16 0x42E1 = some (.sbcIndX 0x42) ∧ decodeTableWord 16 0x42E5 = some (.sbcZp 0x42) ∧
    decodeTableWord 16 0x42E9 = some (.sbcImm 0x42) ∧ decodeTableWord 24 0x1234ED = some (.sbcAbs 0x1234) ∧
    decodeTableWord 16 0x42F1 = some (.sbcIndY 0x42) ∧ decodeTableWord 16 0x42F5 = some (.sbcZpX 0x42) ∧
    decodeTableWord 24 0x1234F9 = some (.sbcAbsY 0x1234) ∧ decodeTableWord 24 0x1234FD = some (.sbcAbsX 0x1234) := by decide

theorem test_decode_inc :
    decodeTableWord 16 0x42E6 = some (.incZp 0x42) ∧ decodeTableWord 24 0x1234EE = some (.incAbs 0x1234) ∧
    decodeTableWord 16 0x42F6 = some (.incZpX 0x42) ∧ decodeTableWord 24 0x1234FE = some (.incAbsX 0x1234) := by decide

theorem test_decode_inx : decodeTableWord 8 0xE8 = some .inx := by decide

theorem test_decode_nop : decodeTableWord 8 0xEA = some .nop := by decide

theorem test_decode_beq : decodeTableWord 16 0x42F0 = some (.beq 0x42) := by decide

theorem test_decode_sed : decodeTableWord 8 0xF8 = some .sed := by decide

/-- V1 to V4, R98: bytes with no descriptor; and lists that end before the instruction does. -/
theorem test_decode_rejects : decode [0x02] = .error (.invalidOpcode 0x02) ∧ decode [0xFF] = .error (.invalidOpcode 0xFF) ∧
    decode [0x80, 0x00] = .error (.invalidOpcode 0x80) ∧ decode [0xEB, 0x01] = .error (.invalidOpcode 0xEB) ∧
    decode [] = .error .noBytes ∧ decode [0xAD, 0x34] = .error (.missingOperand 0xAD) := by decide

/-- R90, R91: the encoder lays out the opcode, then the low byte, then the high byte. -/
theorem test_encode : encode (.ldaAbs 0x1234) = [0xAD, 0x34, 0x12] ∧ encode (.bne 0xFB) = [0xD0, 0xFB] ∧
    encode .rts = [0x60] ∧ encode (.stxZpY 0xFF) = [0x96, 0xFF] := by decide

/-! ## Single steps -/

/-- The reset state with PC at `pc`, the bytes there, and the settings of the vectors' conventions. -/
def start (pc : Addr) (bs : List Byte) : State :=
  placeBytes bs pc { State.resetAt pc with decimalMode := .binary, jmpIndWrap := .pageWrap }

/-- What one step leaves, seen through `f`. -/
def after {α : Type} (s : State) (f : State → α) : Option α :=
  match step s with
  | .next t => some (f t)
  | _ => none

/-- N, V, Z, C. -/
def nvzc (s : State) : Bool × Bool × Bool × Bool := (s.flagN, s.flagV, s.flagZ, s.flagC)

/-- N, Z. -/
def nz (s : State) : Bool × Bool := (s.flagN, s.flagZ)

/-! ### Addressing (vectors M1 to M20) -/

theorem test_M3_zeroPageX_wraps :
    after { (start 0xA000 [0xB5, 0xFF]).putByte 0x0000 0x77 with x := 0x01 } (·.a) = some 0x77 := by decide

theorem test_M4_zeroPageY_wraps :
    after { (start 0xA000 [0xB6, 0x10]).putByte 0x0005 0x77 with y := 0xF5 } (·.x) = some 0x77 := by decide

theorem test_M5_absolute :
    after ((start 0xA000 [0xAD, 0x34, 0x12]).putByte 0x1234 0x77) (fun t => (t.a, t.pc)) = some (0x77, 0xA003) := by decide

theorem test_M7_absoluteX_wraps :
    after { (start 0xA000 [0xBD, 0xFF, 0xFF]).putByte 0x0001 0x77 with x := 0x02 } (·.a) = some 0x77 := by decide

theorem test_M8_absoluteY_wraps :
    after { (start 0xA000 [0xB9, 0xF8, 0xFF]).putByte 0x0008 0x77 with y := 0x10 } (·.a) = some 0x77 := by decide

theorem test_M11_indirectX_pointer_wraps :
    after ((((start 0xA000 [0xA1, 0xFF]).putByte 0x00FF 0xCD).putByte 0x0000 0xAB).putByte 0xABCD 0x77) (·.a) =
      some 0x77 := by decide

theorem test_M13_indirectY_wraps :
    after { (((start 0xA000 [0xB1, 0x20]).putByte 0x0020 0xFF).putByte 0x0021 0xFF).putByte 0x0001 0x77 with y := 0x02 }
      (·.a) = some 0x77 := by decide

theorem test_M15_jmp_indirect :
    after ((((start 0xA000 [0x6C, 0xFF, 0x10]).putByte 0x10FF 0x34).putByte 0x1000 0x12).putByte 0x1100 0x56) (·.pc) =
      some 0x1234 ∧
    after { (((start 0xA000 [0x6C, 0xFF, 0x10]).putByte 0x10FF 0x34).putByte 0x1000 0x12).putByte 0x1100 0x56 with
      jmpIndWrap := .linear } (·.pc) = some 0x5634 := by decide

theorem test_M17_M18_M20_relative :
    after (start 0xA000 [0xD0, 0xFE]) (·.pc) = some 0xA000 ∧ after (start 0xFFF0 [0x10, 0x7F]) (·.pc) = some 0x0071 ∧
    after { start 0x0002 [0xF0, 0xF0] with flagZ := true } (·.pc) = some 0xFFF4 := by decide

/-! ### Loads and stores (L1 to L15) -/

theorem test_L1_L2_lda : after (start 0xA000 [0xA9, 0x00]) (fun t => (t.a, nz t)) = some (0x00, false, true) ∧
    after (start 0xA000 [0xA9, 0x80]) (fun t => (t.a, nz t)) = some (0x80, true, false) := by decide

theorem test_L3_ldx : after { start 0xA000 [0xA2, 0xFF] with flagC := true, flagV := true }
    (fun t => (t.x, nvzc t)) = some (0xFF, true, true, false, true) := by decide

theorem test_L4_ldy : after ((start 0xA000 [0xA4, 0x10]).putByte 0x0010 0x7F) (fun t => (t.y, nz t)) =
    some (0x7F, false, false) := by decide

theorem test_L5_console_in : after { start 0xA000 [0xAD, 0x10, 0xD0] with input := [0x41, 0x42] }
    (fun t => (t.a, nz t, t.inputPos)) = some (0x41, (false, false), 1) := by decide

theorem test_L6_no_input : after { start 0xA000 [0xAD, 0x10, 0xD0] with inputEnded := true }
    (fun t => (t.pc, t.inputPos, t.engine)) = some (0xA000, 0, .running) := by decide

theorem test_L8_sta_rom : after { (start 0xA000 [0x8D, 0x00, 0xA1]).putByte 0xA100 0xEA with a := 0x55 }
    (fun t => (t.byteAt 0xA100, t.engine)) = some (0xEA, .running) := by decide

theorem test_L9_console_out : after { start 0xA000 [0x8D, 0x20, 0xD0] with a := 0x41 }
    (fun t => (t.output, nz t)) = some ([0x41], false, false) := by decide

theorem test_L10_L11_sta : after (start 0xA000 [0x85, 0x10]) (fun t => (t.byteAt 0x0010, t.flagZ)) = some (0x00, false) ∧
    after { start 0xA000 [0x9D, 0x00, 0x02] with a := 0x99, x := 0x10 } (·.byteAt 0x0210) = some 0x99 := by decide

theorem test_L12_stx : after { start 0xA000 [0x96, 0xFF] with x := 0x77, y := 0x02 } (·.byteAt 0x0001) = some 0x77 := by
  decide

theorem test_L13_sty : after { start 0xA000 [0x94, 0xFF] with y := 0x66, x := 0x01 } (·.byteAt 0x0000) = some 0x66 := by
  decide

theorem test_L15_sta_console_in : after { start 0xA000 [0x8D, 0x10, 0xD0] with a := 0x5A, input := [0x41] }
    (fun t => (t.inputPos, t.output)) = some (0, []) := by decide

/-! ### Transfers and stack (T1 to T16) -/

theorem test_T1_tax : after { start 0xA000 [0xAA] with a := 0x80 } (fun t => (t.x, nz t)) = some (0x80, true, false) := by
  decide

theorem test_T2_tay : after { start 0xA000 [0xA8] with y := 0x55 } (fun t => (t.y, nz t)) = some (0x00, false, true) := by
  decide

theorem test_T3_tsx : after (start 0xA000 [0xBA]) (fun t => (t.x, nz t)) = some (0xFF, true, false) := by decide

theorem test_T4_txs : after { start 0xA000 [0x9A] with flagN := true } (fun t => (t.sp, nz t)) =
    some (0x00, true, false) := by decide

theorem test_T5_tya : after { start 0xA000 [0x98] with a := 0x55 } (fun t => (t.a, nz t)) = some (0x00, false, true) := by
  decide

theorem test_T6_txa : after { start 0xA000 [0x8A] with x := 0x7F } (fun t => (t.a, nz t)) = some (0x7F, false, false) := by
  decide

theorem test_T7_T8_pha :
    after { start 0xA000 [0x48] with a := 0x12 } (fun t => (t.byteAt 0x01FF, t.sp)) = some (0x12, 0xFE) ∧
    after { start 0xA000 [0x48] with a := 0x12, sp := 0x00 } (fun t => (t.byteAt 0x0100, t.sp)) = some (0x12, 0xFF) := by
  decide

theorem test_T9_T10_pla :
    after { (start 0xA000 [0x68]).putByte 0x01FF 0x00 with sp := 0xFE } (fun t => (t.a, nz t, t.sp)) =
      some (0x00, (false, true), 0xFF) ∧
    after ((start 0xA000 [0x68]).putByte 0x0100 0x80) (fun t => (t.a, nz t, t.sp)) =
      some (0x80, (true, false), 0x00) := by decide

theorem test_T11_T13_php :
    after (start 0xA000 [0x08]) (fun t => (t.byteAt 0x01FF, t.sp)) = some (0x34, 0xFE) ∧
    after { start 0xA000 [0x08] with flagN := true, flagV := true, flagD := true, flagZ := true, flagC := true }
      (·.byteAt 0x01FF) = some 0xFF := by decide

theorem test_T14_T16_plp :
    after { (start 0xA000 [0x28]).putByte 0x01FF 0xFF with sp := 0xFE }
      (fun t => (nvzc t, t.flagD, t.flagI, t.flagB, t.sp)) = some ((true, true, true, true), true, true, false, 0xFF) ∧
    after { (start 0xA000 [0x28]).putByte 0x01FF 0xC3 with sp := 0xFE } (fun t => (nvzc t, t.flagD, t.flagI)) =
      some ((true, true, true, true), false, false) := by decide

/-! ### Addition and subtraction (A2, A4, A8, A9, B3, B4, B7, B9) -/

theorem test_A2_A4_adc :
    after { start 0xA000 [0x69, 0x01] with a := 0x7F } (fun t => (t.a, nvzc t)) = some (0x80, true, true, false, false) ∧
    after { start 0xA000 [0x69, 0x80] with a := 0x80 } (fun t => (t.a, nvzc t)) = some (0x00, false, true, true, true) := by
  decide

theorem test_A8_A9_sbc :
    after { start 0xA000 [0xE9, 0x01] with flagC := true } (fun t => (t.a, nvzc t)) =
      some (0xFF, true, false, false, false) ∧
    after { start 0xA000 [0xE9, 0x01] with a := 0x80, flagC := true } (fun t => (t.a, nvzc t)) =
      some (0x7F, false, true, false, true) := by decide

theorem test_B3_B4_adc_decimal :
    after { start 0xA000 [0x69, 0x46] with a := 0x58, flagD := true, decimalMode := .nmosBcd } (fun t => (t.a, nvzc t)) =
      some (0x04, true, true, false, true) ∧
    after { start 0xA000 [0x69, 0x01] with a := 0x99, flagD := true, decimalMode := .nmosBcd } (fun t => (t.a, nvzc t)) =
      some (0x00, true, false, false, true) := by decide

theorem test_B7_B9_sbc_decimal :
    after { start 0xA000 [0xE9, 0x13] with a := 0x40, flagC := true, flagD := true, decimalMode := .nmosBcd }
      (fun t => (t.a, nvzc t)) = some (0x27, false, false, false, true) ∧
    after { start 0xA000 [0xE9, 0x01] with flagC := true, flagD := true, decimalMode := .nmosBcd }
      (fun t => (t.a, nvzc t)) = some (0x99, true, false, false, false) := by decide

/-- A7: with `DECIMAL_MODE = Binary` the D flag plays no part. -/
theorem test_A7_adc_ignores_D : after { start 0xA000 [0x69, 0x46] with a := 0x58, flagD := true }
    (fun t => (t.a, nvzc t)) = some (0x9E, true, true, false, false) := by decide

/-! ### Logic, BIT, compare (G1 to G15) -/

theorem test_G1_and : after { start 0xA000 [0x29, 0x3C] with a := 0xF0, flagC := true, flagV := true }
    (fun t => (t.a, nvzc t)) = some (0x30, false, true, false, true) := by decide

theorem test_G3_ora : after { start 0xA000 [0x09, 0x80] with a := 0x0F } (fun t => (t.a, nz t)) =
    some (0x8F, true, false) := by decide

theorem test_G5_eor : after { start 0xA000 [0x49, 0x0F] with a := 0xFF } (fun t => (t.a, nz t)) =
    some (0xF0, true, false) := by decide

theorem test_G7_bit : after { (start 0xA000 [0x24, 0x10]).putByte 0x0010 0xC0 with a := 0x01 }
    (fun t => (t.a, nvzc t)) = some (0x01, true, true, true, false) := by decide

theorem test_G10_G12_cmp :
    after { start 0xA000 [0xC9, 0x41] with a := 0x40 } (fun t => (t.a, nvzc t)) =
      some (0x40, true, false, false, false) ∧
    after { start 0xA000 [0xC9, 0x00] with a := 0x80, flagV := true } nvzc = some (true, true, false, true) := by decide

theorem test_G13_cpx : after { start 0xA000 [0xE0, 0x03] with x := 0x05 } nvzc = some (false, false, false, true) := by
  decide

theorem test_G14_cpy : after (start 0xA000 [0xC0, 0xFF]) nvzc = some (false, false, false, false) := by decide

/-! ### Increment, decrement, shift, rotate (I1 to I9, S1 to S11) -/

theorem test_I1_inx : after { start 0xA000 [0xE8] with x := 0xFF } (fun t => (t.x, nz t)) = some (0x00, false, true) := by
  decide

theorem test_I5_iny : after { start 0xA000 [0xC8] with y := 0xFF } (fun t => (t.y, nz t)) = some (0x00, false, true) := by
  decide

theorem test_I4_dex : after { start 0xA000 [0xCA] with x := 0x01 } (fun t => (t.x, nz t)) = some (0x00, false, true) := by
  decide

theorem test_I3_dey : after (start 0xA000 [0x88]) (fun t => (t.y, nz t)) = some (0xFF, true, false) := by decide

theorem test_I6_inc : after ((start 0xA000 [0xE6, 0x10]).putByte 0x0010 0x7F) (fun t => (t.byteAt 0x0010, nz t)) =
    some (0x80, true, false) := by decide

theorem test_I9_inc_rom : after ((start 0xA000 [0xEE, 0x00, 0xA1]).putByte 0xA100 0x10)
    (fun t => (t.byteAt 0xA100, nz t)) = some (0x10, false, false) := by decide

theorem test_I8_dec : after { (start 0xA000 [0xD6, 0xFF]).putByte 0x0000 0x00 with x := 0x01 }
    (fun t => (t.byteAt 0x0000, nz t)) = some (0xFF, true, false) := by decide

theorem test_S1_S3_asl :
    after { start 0xA000 [0x0A] with a := 0x81 } (fun t => (t.a, nvzc t)) = some (0x02, false, false, false, true) ∧
    after ((start 0xA000 [0x06, 0x10]).putByte 0x0010 0xC0) (fun t => (t.byteAt 0x0010, nvzc t)) =
      some (0x80, true, false, false, true) := by decide

theorem test_S4_lsr : after { start 0xA000 [0x4A] with a := 0x01 } (fun t => (t.a, nvzc t)) =
    some (0x00, false, false, true, true) := by decide

theorem test_S6_rol : after { start 0xA000 [0x2A] with a := 0x40, flagC := true } (fun t => (t.a, nvzc t)) =
    some (0x81, true, false, false, false) := by decide

theorem test_S8_S11_ror :
    after { start 0xA000 [0x6A] with a := 0x02, flagC := true } (fun t => (t.a, nvzc t)) =
      some (0x81, true, false, false, false) ∧
    after { (start 0xA000 [0x66, 0x10]).putByte 0x0010 0x01 with flagC := true, flagV := true }
      (fun t => (t.byteAt 0x0010, nvzc t)) = some (0x80, true, true, false, true) := by decide

/-! ### Control (C1 to C14) -/

theorem test_C1_jmp : after (start 0xA000 [0x4C, 0x34, 0x12]) (·.pc) = some 0x1234 := by decide

theorem test_C2_C3_jsr :
    after (start 0xA007 [0x20, 0x0E, 0xA0]) (fun t => (t.byteAt 0x01FF, t.byteAt 0x01FE, t.sp, t.pc)) =
      some (0xA0, 0x09, 0xFD, 0xA00E) ∧
    after { start 0xA000 [0x20, 0x00, 0xB0] with sp := 0x00 } (fun t => (t.byteAt 0x0100, t.byteAt 0x01FF, t.sp, t.pc)) =
      some (0xA0, 0x02, 0xFE, 0xB000) := by decide

theorem test_C4_C5_rts :
    after { ((start 0xA000 [0x60]).putByte 0x01FE 0x09).putByte 0x01FF 0xA0 with sp := 0xFD } (fun t => (t.pc, t.sp)) =
      some (0xA00A, 0xFF) ∧
    after { ((start 0xA000 [0x60]).putByte 0x01FE 0xFF).putByte 0x01FF 0xFF with sp := 0xFD } (·.pc) = some 0x0000 := by
  decide

theorem test_C6_rti :
    after { (((start 0xA000 [0x40]).putByte 0x01FD 0x03).putByte 0x01FE 0x00).putByte 0x01FF 0xA1 with sp := 0xFC }
      (fun t => (t.pc, t.sp, nvzc t)) = some (0xA100, 0xFF, false, false, true, true) := by decide

theorem test_C7_bcc : after (start 0xA000 [0x90, 0x05]) (·.pc) = some 0xA007 := by decide

theorem test_C8_bcs : after (start 0xA000 [0xB0, 0x05]) (·.pc) = some 0xA002 := by decide

theorem test_C9_beq : after { start 0xA005 [0xF0, 0x06] with flagZ := true } (·.pc) = some 0xA00D := by decide

theorem test_C10_bmi : after { start 0xA010 [0x30, 0x80] with flagN := true } (·.pc) = some 0x9F92 := by decide

theorem test_C11_bne : after (start 0xA008 [0xD0, 0xFB]) (·.pc) = some 0xA005 := by decide

theorem test_C12_bpl : after (start 0xA000 [0x10, 0x7F]) (·.pc) = some 0xA081 := by decide

theorem test_C13_bvc : after { start 0xA000 [0x50, 0x10] with flagV := true } (·.pc) = some 0xA002 := by decide

theorem test_C14_bvs : after { start 0xA000 [0x70, 0x10] with flagV := true } (·.pc) = some 0xA012 := by decide

/-! ### Flags, NOP, BRK, faults (F1 to F9, V1 to V6) -/

theorem test_F1_clc : after { start 0xA000 [0x18] with flagC := true } (fun t => (t.flagC, t.pc)) =
    some (false, 0xA001) := by decide

theorem test_F2_sec : after (start 0xA000 [0x38]) (·.flagC) = some true := by decide

theorem test_F3_cld : after { start 0xA000 [0xD8] with flagD := true } (·.flagD) = some false := by decide

theorem test_F4_sed : after (start 0xA000 [0xF8]) (·.flagD) = some true := by decide

theorem test_F5_cli : after (start 0xA000 [0x58]) (·.flagI) = some false := by decide

theorem test_F6_sei : after { start 0xA000 [0x78] with flagI := false } (·.flagI) = some true := by decide

theorem test_F7_clv : after { start 0xA000 [0xB8] with flagV := true } (·.flagV) = some false := by decide

theorem test_F8_nop : after (start 0xA000 [0xEA]) (fun t => (t.pc, t.sp, nz t)) =
    some (0xA001, 0xFF, false, false) := by decide

theorem test_F9_brk : after (start 0xA005 [0x00]) (fun t => (t.engine, t.pc, t.sp, t.flagB, t.flagI)) =
    some (.halted, 0xA006, 0xFF, false, true) := by decide

theorem test_V1_invalid : after (start 0xA000 [0x02]) (fun t => (t.engine, t.pc)) =
    some (.faulted .invalidOpcode 0xA000 0x02, 0xA001) := by decide

theorem test_V5_V6_terminal : after { start 0xA000 [0xE8] with engine := .halted } (fun t => (t.pc, t.x)) =
    some (0xA000, 0x00) ∧
    after { start 0xA000 [0xE8] with engine := .faulted .invalidOpcode 0x1234 0x02 } (fun t => (t.pc, t.x, t.engine)) =
      some (0xA000, 0x00, .faulted .invalidOpcode 0x1234 0x02) := by decide

theorem test_V8_pc_wraps : after (start 0xFFFF [0xEA]) (·.pc) = some 0x0000 := by decide

/-! ### Regions, loading, assembling (R1 to R11, S-C, X7, X8, X11, X15, X25, X39) -/

theorem test_R2_R4_R6_register :
    registerRegion ⟨0xC000, 0, .ram⟩ defaultRegions = .error .outOfBoundsError ∧
    registerRegion ⟨0x9FFF, 2, .ram⟩ defaultRegions = .error .overlapError ∧
    registerRegion ⟨0xF000, 0x2000, .ram⟩ defaultRegions = .error .outOfBoundsError := by decide

/-- S-C. -/
theorem test_SC_register : registerAll [⟨0xD000, 0x1000, .io⟩, ⟨0xD800, 0x101, .rom⟩] [] = .error .overlapError := by
  decide

theorem test_R9_R10_R11_load :
    ((loadBytes [0xEA, 0x00] 0xA000 State.reset).map fun t => (t.byteAt 0xA000, t.byteAt 0xA001)) = some (0xEA, 0x00) ∧
    (loadBytes [0xEA, 0xEA] 0xCFFF State.reset).isNone = true ∧
    (loadBytes [0xEA, 0xEA] 0xFFFF State.reset).isNone = true := by decide

theorem test_X7_X8_widths :
    assemble " LDA LATER\nLATER: BRK".toList 0x0000 = .ok ⟨[0xAD, 0x03, 0x00, 0x00], [("LATER".toList, 0x0003)]⟩ ∧
    assemble "EARLY: BRK\n LDA EARLY".toList 0x0000 = .ok ⟨[0x00, 0xA5, 0x00], [("EARLY".toList, 0x0000)]⟩ := by decide

theorem test_X11_X25_X39_errors :
    assemble " STX $1234,Y".toList 0xA000 = .error ⟨.invalidOperandSyntaxError, 1⟩ ∧
    assemble "L: NOP\nL: NOP".toList 0xA000 = .error ⟨.duplicateLabelError, 2⟩ ∧
    assemble " LDA Loop\nLOOP: BRK".toList 0xA000 = .error ⟨.unknownLabelError, 1⟩ := by decide

theorem test_X15_spaces : assemble " LDA ( $20 ) , Y".toList 0xA000 = .ok ⟨[0xB1, 0x20], []⟩ := by decide

/-! ### Running to the end (R326, R352 step 5, R354; S-E) -/

/-- What a run reports, its completion status, whether there is a message, and PC at the end. -/
def reported (source : String) (budget : Nat) : Option (Option Report × Bool × Bool × Addr) :=
  (loadAndRun defaultRegions source.toList none [] budget).map fun e =>
    match e with
    | .notStarted _ => (none, e.failed, e.message.isSome, 0x0000)
    | .ended r t => (some r, e.failed, e.message.isSome, t.pc)

theorem test_run_halts : reported " BRK" 1 = some (some .halted, false, false, 0xA001) := by decide

/-- S-E: the report of a fault carries the address and the byte. -/
theorem test_SE_run_faults : reported " .byte $02" 1 = some (some (.invalidOpcode 0xA000 0x02), true, true, 0xA001) := by
  decide

theorem test_run_refused : reported " FOO" 1 = some (none, true, true, 0x0000) ∧
    reported " .org $FFFF\n NOP\n NOP" 1 = some (none, true, true, 0x0000) := by decide

theorem test_run_not_ended : (reported " BRK" 0).isNone = true ∧ (reported " NOP" 1).isNone = true := by decide

/-! ### The fixed names -/

/-- `withFetchWord` places the word where the next step fetches it. -/
theorem test_withFetchWord : after (State.reset.withFetchWord 16 0x42A9) (fun t => (t.a, t.pc)) = some (0x42, 0xA002) ∧
    after (State.reset.withFetchWord 24 0x12344C) (·.pc) = some 0x1234 ∧
    after (State.reset.withFetchWord 8 0x00) (·.engine) = some .halted := by decide

/-! ## Witnesses: the hypotheses of each statement, met together -/

/-- The vectors' start state with an indirect pointer at $20, which is $1234, and a byte there. -/
def pointed (bs : List Byte) : State :=
  (((start 0xA000 bs).putByte 0x0020 0x34).putByte 0x0021 0x12).putByte 0x1234 0x77

theorem witness_EncodeOfDecodedIsTheBytes : decode [0xA9, 0x42, 0xFF] = .ok (.ldaImm 0x42, [0xFF]) ∧
    decode [0x6C, 0xFF, 0x10] = .ok (.jmpInd 0x10FF, []) := by decide

theorem witness_DecoderFollowsTheDescriptorTable :
    descriptor 0x00 = some ⟨0x00, .brk, .implied, 7, .none⟩ ∧ descriptor 0x02 = none ∧ descriptor 0xFF = none := by decide

theorem witness_StepRunsTheDecodedInstruction_fetched :
    (start 0xA000 [0xA9, 0x42]).engine = .running ∧
    fetchBytes (encode (.ldaImm 0x42)).length (start 0xA000 [0xA9, 0x42]) =
      some (encode (.ldaImm 0x42), { start 0xA000 [0xA9, 0x42] with pc := 0xA002 }) := ⟨rfl, rfl⟩

/-- An opcode taken from the input stream: PC is at $D010. -/
theorem witness_StepRunsTheDecodedInstruction_io :
    fetchBytes (encode .nop).length { start 0xD010 [] with input := [0xEA] } =
      some (encode .nop, { start 0xD010 [] with input := [0xEA], inputPos := 1, pc := 0xD011 }) := rfl

theorem witness_BytesAtPC : BytesAtPC (encode (.ldaAbs consoleIn)) (start 0xA000 [0xAD, 0x10, 0xD0]) ∧
    BytesAtPC (encode .nop) (start 0xFFFF [0xEA]) := by
  constructor
  · intro k h
    have h' : k < 3 := h
    interval_cases k <;> exact ⟨by decide, rfl⟩
  · intro k h
    have h' : k < 1 := h
    interval_cases k
    exact ⟨by decide, rfl⟩

theorem witness_InvalidOpcodeFaultsTheEngine :
    fetchByte (start 0xA000 [0x02]) = some (0x02, { start 0xA000 [0x02] with pc := 0xA001 }) ∧
    fetchByte (start 0xFFFF [0xFF]) = some (0xFF, { start 0xFFFF [0xFF] with pc := 0x0000 }) ∧
    (start 0xA000 [0x02]).policy 0xA000 ≠ .io ∧ descriptor 0x02 = none ∧ descriptor 0xFF = none :=
  ⟨rfl, rfl, by decide, by decide, by decide⟩

theorem witness_TerminalStatesDoNotStep : { start 0xA000 [] with engine := .halted }.engine ≠ .running ∧
    { start 0xA000 [] with engine := .faulted .invalidOpcode 0xA000 0x02 }.engine ≠ .running := by decide

theorem witness_AwaitedInput_fetch : (start 0xD010 []).engine = .running ∧
    fetchInstr (start 0xD010 []) = .awaitsInput := ⟨rfl, rfl⟩

theorem witness_AwaitedInput_execute :
    fetchInstr (start 0xA000 [0xAD, 0x10, 0xD0]) =
      .instr (.ldaAbs consoleIn) { start 0xA000 [0xAD, 0x10, 0xD0] with pc := 0xA003 } ∧
    exec (.ldaAbs consoleIn) { start 0xA000 [0xAD, 0x10, 0xD0] with pc := 0xA003 } = .fault .inputAwaited := ⟨rfl, rfl⟩

theorem witness_EveryInstructionCompletesWithInput :
    State.InputReady 1 { start 0xA000 [] with input := [0x41] } ∧
    State.InputReady 2 { start 0xA000 [] with input := [0x41, 0x42] } ∧
    State.NoConsoleInput { start 0xA000 [] with regions := [] } := by
  refine ⟨?_, ?_, ?_⟩
  · exact (by decide : 0 + 1 ≤ 1)
  · exact (by decide : 0 + 2 ≤ 2)
  · exact (by decide : State.policy { start 0xA000 [] with regions := [] } consoleIn ≠ .io)

theorem witness_LoadFromTheConsoleTakesOneUnit : (start 0xA000 [0xAD, 0x10, 0xD0]).policy consoleIn = .io ∧
    { start 0xA000 [0xAD, 0x10, 0xD0] with input := [0x41] }.input[0]? = some 0x41 ∧
    (start 0xA000 [0xAD, 0x10, 0xD0]).input.length ≤ (start 0xA000 [0xAD, 0x10, 0xD0]).inputPos := by decide

/-- For ReadFollowsThePolicy, WriteFollowsThePolicy and ReadReturnsTheLastWrite: every policy at the first and last
addresses of its regions. -/
theorem witness_policies :
    regionOf (start 0xA000 []).regions 0xC000 = none ∧ regionOf (start 0xA000 []).regions 0xCFFF = none ∧
    (start 0xA000 []).policy 0x0000 = .ram ∧ (start 0xA000 []).policy 0x9FFF = .ram ∧
    (start 0xA000 []).policy 0xA000 = .rom ∧ (start 0xA000 []).policy 0xBFFF = .rom ∧
    (start 0xA000 []).policy 0xD000 = .io ∧ (start 0xA000 []).policy 0xDFFF = .io ∧
    (start 0xA000 []).policy consoleIn = .io ∧ (start 0xA000 []).policy consoleOut = .io ∧
    (start 0xA000 []).policy 0xE000 = .rom ∧ (start 0xA000 []).policy 0xFFFF = .rom ∧
    (0xD000 : Addr) ≠ consoleIn ∧ (0xDFFF : Addr) ≠ consoleOut := by decide

theorem witness_RegionsStayDisjoint : regionsWf defaultRegions = true ∧
    ⟨0xD000, 0x1000, .io⟩ ∈ defaultRegions ∧ regionContains ⟨0xD000, 0x1000, .io⟩ 0xDFFF = true ∧
    registerAll defaultRegions [] = .ok defaultRegions := by decide

theorem witness_RegistrationChecksBoundsThenOverlap_errors : regionsWf defaultRegions = true ∧
    65536 < (0xF000 : Addr).toNat + 0x2000 ∧ (0xFFFF : Addr).toNat + 1 ≤ 65536 ∧
    regionContains ⟨0xFFFF, 1, .rom⟩ 0xFFFF = true ∧ regionContains ⟨0xE000, 0x2000, .rom⟩ 0xFFFF = true ∧
    ⟨0xE000, 0x2000, .rom⟩ ∈ defaultRegions := by decide

/-- $C000 to $CFFF meets no region of the default map. -/
theorem witness_RegistrationChecksBoundsThenOverlap_adds :
    ∀ q ∈ defaultRegions, ∀ a, ¬ (regionContains ⟨0xC000, 0x1000, .ram⟩ a = true ∧ regionContains q a = true) := by
  intro q hq a
  simp only [defaultRegions, List.mem_cons, List.not_mem_nil, or_false] at hq
  have e : (0xC000 : Addr).toNat = 0xC000 ∧ (0x0000 : Addr).toNat = 0 ∧ (0xA000 : Addr).toNat = 0xA000 ∧
      (0xD000 : Addr).toNat = 0xD000 ∧ (0xE000 : Addr).toNat = 0xE000 := by decide
  rcases hq with rfl | rfl | rfl | rfl <;> simp only [regionContains, Bool.and_eq_true, decide_eq_true_eq] <;> omega

/-- For StepsKeepTheLaunchParameters, EveryStepKeepsTheInvariant, StepsNeverChangeRom, StepsAdvanceTheStreams and
NoStepWritesTheBreakFlag: a step, from a state that meets the invariant, and an address outside RAM. -/
theorem witness_steps : (start 0xA000 [0xA9, 0x42]).Inv ∧
    (start 0xA000 [0xA9, 0x42]).policy 0xA000 ≠ .ram ∧
    step (start 0xA000 [0xA9, 0x42]) =
      .next { start 0xA000 [0xA9, 0x42] with a := 0x42, pc := 0xA002 } := by
  refine ⟨⟨by decide, by decide, by decide⟩, by decide, rfl⟩

/-- For OnlyListedInstructionsWriteARegister, OnlyListedInstructionsWriteAFlag, OnlyControlInstructionsWritePcOrEngine and
OtherInstructionsLeaveMemory: for each condition an instruction that meets it and completes. -/
theorem witness_frames :
    (mayWriteA .tax = false ∧ ∃ t, exec .tax (start 0xA000 []) = .next t) ∧
    (mayWriteX .lsrAcc = false ∧ mayWriteY .lsrAcc = false ∧ mayWriteSP .lsrAcc = false ∧
      ∃ t, exec .lsrAcc (start 0xA000 []) = .next t) ∧
    (mayWriteNZ .sei = false ∧ mayWriteV .sei = false ∧ mayWriteD .sei = false ∧ mayWriteC .sei = false ∧
      ∃ t, exec .sei (start 0xA000 []) = .next t) ∧
    (mayWriteI .sed = false ∧ maySetPC .sed = false ∧ Instr.sed ≠ .brk ∧
      ∃ t, exec .sed (start 0xA000 []) = .next t) ∧
    (storesToOperand .aslAcc = false ∧ pushes .aslAcc = false ∧ ∃ t, exec .aslAcc (start 0xA000 []) = .next t) :=
  ⟨⟨by decide, _, rfl⟩, ⟨by decide, by decide, by decide, _, rfl⟩, ⟨by decide, by decide, by decide, by decide, _, rfl⟩,
    ⟨by decide, by decide, by decide, _, rfl⟩, ⟨by decide, by decide, _, rfl⟩⟩

theorem witness_StoresChangeOnlyTheirByte :
    storesToOperand (.staIndY 0x20) = true ∧ (Instr.staIndY 0x20).operand = .memory (.indirectY 0x20) ∧
    effectiveAddress (.indirectY 0x20) (pointed []) = some (0x1234, pointed []) ∧
    (∃ t, exec (.staIndY 0x20) (pointed []) = .next t) ∧
    storesToOperand (.incZp 0x20) = true ∧ (∃ t, exec (.incZp 0x20) (pointed []) = .next t) :=
  ⟨by decide, rfl, rfl, ⟨_, rfl⟩, by decide, ⟨_, rfl⟩⟩

theorem witness_PushesChangeOnlyTheStack : pushes .pha = true ∧ (∃ t, exec .pha (start 0xA000 []) = .next t) ∧
    pushes (.jsr 0x1234) = true ∧ (∃ t, exec (.jsr 0x1234) (start 0xA000 []) = .next t) ∧
    (0x01FD : Addr) ≠ stackAddr 0xFF ∧ (0x01FD : Addr) ≠ stackAddr (0xFF - 1) :=
  ⟨by decide, ⟨_, rfl⟩, by decide, ⟨_, rfl⟩, by decide, by decide⟩

/-- Both pointers, the first at the end of page zero ($FF then $00, vector M11), the second at $20. -/
theorem witness_PointersLieInPageZero :
    State.read ((((start 0xA000 []).putByte 0x00FF 0xCD).putByte 0x0000 0xAB))
        (BitVec.ofNat 16 (((0xFF : Byte).toNat + (0x00 : Byte).toNat) % 256)) =
      some (0xCD, (((start 0xA000 []).putByte 0x00FF 0xCD).putByte 0x0000 0xAB)) ∧
    State.read ((((start 0xA000 []).putByte 0x00FF 0xCD).putByte 0x0000 0xAB))
        (BitVec.ofNat 16 (((0xFF : Byte).toNat + (0x00 : Byte).toNat + 1) % 256)) =
      some (0xAB, (((start 0xA000 []).putByte 0x00FF 0xCD).putByte 0x0000 0xAB)) ∧
    (pointed []).read (BitVec.ofNat 16 (0x20 : Byte).toNat) = some (0x34, pointed []) ∧
    (pointed []).read (BitVec.ofNat 16 (((0x20 : Byte).toNat + 1) % 256)) = some (0x12, pointed []) :=
  ⟨rfl, rfl, rfl, rfl⟩

/-- One source for the statements over `sourceValue`: an immediate operand, a byte of memory, and an input unit. -/
theorem witness_sourceValue :
    sourceValue (.immediate 0x80) (start 0xA000 []) = some (0x80, start 0xA000 []) ∧
    sourceValue (.memory (.indirectY 0x20)) (pointed []) = some (0x77, pointed []) ∧
    sourceValue (.memory (.absolute consoleIn)) { start 0xA000 [] with input := [0x41] } =
      some (0x41, { start 0xA000 [] with input := [0x41], inputPos := 1 }) := ⟨rfl, rfl, rfl⟩

theorem witness_LoadsWriteTheirRegister :
    effectiveAddress (.indirectY 0x20) (pointed []) = some (0x1234, pointed []) ∧
    sourceValue (.immediate 0x80) (start 0xA000 []) = some (0x80, start 0xA000 []) ∧
    (Instr.ldaImm 0x80).operand = (Source.immediate 0x80).operand ∧ (Instr.ldaImm 0x80).mnemonic = .lda ∧
    (Instr.ldxImm 0x80).operand = (Source.immediate 0x80).operand ∧ (Instr.ldxImm 0x80).mnemonic = .ldx ∧
    (Instr.ldyImm 0x80).operand = (Source.immediate 0x80).operand ∧ (Instr.ldyImm 0x80).mnemonic = .ldy ∧
    (Instr.ldaIndY 0x20).operand = (Source.memory (.indirectY 0x20)).operand := ⟨rfl, rfl, by decide⟩

theorem witness_StoresWriteTheirRegister :
    (Instr.staAbs 0x1234).operand = .memory (.absolute 0x1234) ∧ (Instr.staAbs 0x1234).mnemonic = .sta ∧
    (Instr.stxAbs 0x1234).operand = .memory (.absolute 0x1234) ∧ (Instr.stxAbs 0x1234).mnemonic = .stx ∧
    (Instr.styAbs 0x1234).operand = .memory (.absolute 0x1234) ∧ (Instr.styAbs 0x1234).mnemonic = .sty ∧
    effectiveAddress (.absolute 0x1234) (start 0xA000 []) = some (0x1234, start 0xA000 []) :=
  ⟨rfl, rfl, rfl, rfl, rfl, rfl, rfl⟩

theorem witness_PullsIncrementThenRead :
    State.pull ((start 0xA000 []).putByte 0x0100 0x80) =
      some (0x80, { (start 0xA000 []).putByte 0x0100 0x80 with sp := 0x00 }) := rfl

theorem witness_AdcAddsWithCarry :
    sourceValue (.immediate 0x80) (start 0xA000 []) = some (0x80, start 0xA000 []) ∧
    (Instr.adcImm 0x80).mnemonic = .adc ∧ (Instr.adcImm 0x80).operand = (Source.immediate 0x80).operand ∧
    (start 0xA000 []).flagD = false ∧ (start 0xA000 []).decimalMode = .binary ∧
    { start 0xA000 [] with flagD := true, decimalMode := .nmosBcd }.flagD = true ∧
    { start 0xA000 [] with flagD := true, decimalMode := .nmosBcd }.decimalMode = .nmosBcd := ⟨rfl, by decide⟩

theorem witness_SbcSubtractsWithBorrow :
    sourceValue (.immediate 0x80) (start 0xA000 []) = some (0x80, start 0xA000 []) ∧
    (Instr.sbcImm 0x80).mnemonic = .sbc ∧ (Instr.sbcImm 0x80).operand = (Source.immediate 0x80).operand := ⟨rfl, by decide⟩

theorem witness_DecimalArithmeticIsDecimal : 0 < 100 ∧ 99 < 100 ∧ bcd 99 = 0x99 ∧ bcd 0 = 0x00 := by decide

theorem witness_LogicAndBitResults :
    sourceValue (.immediate 0x80) (start 0xA000 []) = some (0x80, start 0xA000 []) ∧
    (Instr.andImm 0x80).mnemonic = .and ∧ (Instr.andImm 0x80).operand = (Source.immediate 0x80).operand ∧
    (Instr.oraImm 0x80).mnemonic = .ora ∧ (Instr.oraImm 0x80).operand = (Source.immediate 0x80).operand ∧
    (Instr.eorImm 0x80).mnemonic = .eor ∧ (Instr.eorImm 0x80).operand = (Source.immediate 0x80).operand ∧
    (Instr.bitAbs 0x1234).mnemonic = .bit ∧
    (Instr.bitAbs 0x1234).operand = (Source.memory (.absolute 0x1234)).operand ∧
    sourceValue (.memory (.absolute 0x1234)) (pointed []) = some (0x77, pointed []) :=
  ⟨rfl, rfl, rfl, rfl, rfl, rfl, rfl, rfl, rfl, rfl⟩

theorem witness_ComparesWriteThreeFlags :
    sourceValue (.immediate 0x80) (start 0xA000 []) = some (0x80, start 0xA000 []) ∧
    (Instr.cmpImm 0x80).mnemonic = .cmp ∧ (Instr.cmpImm 0x80).operand = (Source.immediate 0x80).operand ∧
    (Instr.cpxImm 0x80).mnemonic = .cpx ∧ (Instr.cpxImm 0x80).operand = (Source.immediate 0x80).operand ∧
    (Instr.cpyImm 0x80).mnemonic = .cpy ∧ (Instr.cpyImm 0x80).operand = (Source.immediate 0x80).operand := ⟨rfl, by decide⟩

theorem witness_IncAndDecModifyTheirByte :
    (Instr.incAbs 0x1234).operand = .memory (.absolute 0x1234) ∧
    effectiveAddress (.absolute 0x1234) (pointed []) = some (0x1234, pointed []) ∧
    (pointed []).read 0x1234 = some (0x77, pointed []) ∧
    stepped .inc 0xFF = some 0x00 ∧ stepped .dec 0x00 = some 0xFF ∧ stepped .inc 0x77 = some 0x78 :=
  ⟨rfl, rfl, rfl, by decide, by decide, by decide⟩

theorem witness_ShiftsMoveOneBitThroughCarry :
    effectiveAddress (.absolute 0x1234) (pointed []) = some (0x1234, pointed []) ∧
    (pointed []).read 0x1234 = some (0x77, pointed []) ∧
    Instr.rolAcc.operand = .accumulator ∧ (Instr.rorAbs 0x1234).operand = .memory (.absolute 0x1234) ∧
    shifted .asl 0x81 true = some (0x02, true) ∧ shifted .lsr 0x81 true = some (0x40, true) ∧
    shifted .rol 0x40 true = some (0x81, false) ∧ shifted .ror 0x02 true = some (0x81, false) := ⟨rfl, rfl, by decide⟩

theorem witness_JumpsSetThePc :
    (pointed []).read 0x0020 = some (0x34, pointed []) ∧
    (pointed []).read (match (pointed []).jmpIndWrap with
      | .pageWrap => ((0x0020 : Addr) &&& 0xFF00) ||| ((0x0020 + 1) &&& 0x00FF)
      | .linear => 0x0020 + 1) = some (0x12, pointed []) := ⟨rfl, rfl⟩

theorem witness_JsrPushesTheReturnAddress : (0xA002 : Addr).toNat = ((0xA003 : Addr).toNat + 65535) % 65536 ∧
    (0xFFFF : Addr).toNat = ((0x0000 : Addr).toNat + 65535) % 65536 := by decide

/-- Three stack bytes above SP, which wraps. -/
def stacked : State := (((start 0xA000 []).putByte 0x0100 0x80).putByte 0x0101 0x12).putByte 0x0102 0x34

theorem witness_ReturnsPullThePc :
    stacked.pull = some (0x80, { stacked with sp := 0x00 }) ∧
    { stacked with sp := 0x00 }.pull = some (0x12, { stacked with sp := 0x01 }) ∧
    { stacked with sp := 0x01 }.pull = some (0x34, { stacked with sp := 0x02 }) := ⟨rfl, rfl, rfl⟩

/-- SP at both ends of its range. -/
theorem witness_RtsReturnsToTheJsr :
    (start 0xA000 []).policy (stackAddr 0xFF) = .ram ∧ (start 0xA000 []).policy (stackAddr (0xFF - 1)) = .ram ∧
    (start 0xA000 []).policy (stackAddr 0x00) = .ram ∧ (start 0xA000 []).policy (stackAddr (0x00 - 1)) = .ram ∧
    ∃ t, exec (.jsr 0x1234) (start 0xA003 []) = .next t :=
  ⟨by decide, by decide, by decide, by decide, _, rfl⟩

theorem witness_BranchesTestOneFlag : (Instr.bne 0x80).operand = .relative 0x80 ∧
    branchCondition .bne (start 0xA000 []) = some true ∧ branchCondition .beq (start 0xA000 []) = some false := by decide

theorem witness_BrkHaltsTheEngine : (start 0xA005 [0x00]).engine = .running ∧ (start 0xA005 [0x00]).policy 0xA005 ≠ .io ∧
    (start 0xA005 [0x00]).byteAt 0xA005 = 0x00 := by decide

theorem witness_PassLengthsAgree :
    bodyBytes [] 0xA000 (.bytes [.number 0x48, .number 0x49]) = .ok [0x48, 0x49] ∧
    passTwo [] [⟨1, 0xA000, .words [.number 0x1234]⟩, ⟨2, 0xA002, .instr .brk .implied none⟩] =
      .ok [0x34, 0x12, 0x00] := by decide

/-- One line of each operand length, with the largest byte, the largest word and the largest offset. -/
theorem witness_AssembledInstructionsDecode :
    instrBytes [] 0xA000 .brk .implied none = .ok [0x00] ∧
    instrBytes [] 0xA000 .lda .immediate (some (.number 0xFF)) = .ok [0xA9, 0xFF] ∧
    instrBytes [] 0xA000 .jmp .indirect (some (.number 0xFFFF)) = .ok [0x6C, 0xFF, 0xFF] ∧
    instrBytes [] 0xA000 .bne .relative (some (.number 0xA081)) = .ok [0xD0, 0x7F] := by decide

/-- The offsets -128 and 127, and the first beyond each (vectors X35, X36, S-B). -/
theorem witness_AssembledBranchesReachTheirTarget : Mnemonic.hasMode .bne .relative = true ∧
    termValue [] (.number 0xA000) = .ok 0xA000 ∧
    instrBytes [] 0xA07E .bne .relative (some (.number 0xA000)) = .ok [0xD0, 0x80] ∧
    instrBytes [] 0xA07F .bne .relative (some (.number 0xA000)) = .error .branchOutOfRangeError ∧
    instrBytes [] 0xA000 .bne .relative (some (.number 0xA081)) = .ok [0xD0, 0x7F] ∧
    instrBytes [] 0xA000 .bne .relative (some (.number 0xA082)) = .error .branchOutOfRangeError := by decide

theorem witness_LoadPlacesItsBytes : (loadBytes [0xEA] 0xFFFF (start 0xA000 [])).isSome = true ∧
    (loadBytes [0xEA, 0x00] 0xCFFE (start 0xA000 [])).isSome = true := by decide

theorem witness_LaunchLoadsAndResets :
    (match launch defaultRegions " NOP".toList none with
      | .ok s => some (s.pc, s.byteAt 0xA000)
      | .error _ => none) = some (0xA000, 0xEA) ∧
    (0x9FFF : Addr).toNat < (startAddress none).toNat ∧
    (startAddress none).toNat + [(0xEA : Byte)].length ≤ (0xA001 : Addr).toNat := by decide

/-- Its clauses about runs: one that ends, with either report, one that has not ended, and a launch that fails. -/
theorem witness_LaunchLoadsAndResets_runs :
    runToEnd 1 (start 0xA000 [0x00]) = some (.halted, { start 0xA000 [0x00] with engine := .halted, pc := 0xA001 }) ∧
    (∃ t, runToEnd 1 (start 0xA000 [0x02]) = some (.invalidOpcode 0xA000 0x02, t)) ∧
    runToEnd 0 (start 0xA000 [0x00]) = none ∧
    (match launch defaultRegions " FOO".toList none with
      | .ok _ => none
      | .error e => some e) = some (.assembly ⟨.unknownMnemonicError, 1⟩) := ⟨rfl, ⟨_, rfl⟩, rfl, by decide⟩

end Sys2Proof.Tests
end

/-! SUPPORT. What each operation, instruction and step can change of the state: the frame of `exec`, from which the
statements about registers, flags and launch parameters follow. -/

namespace Sys2Proof.Machine

open Sys2Proof.Claims

/-! ### The parts of the state -/

/-- The fields of `State` that a read never changes: all but the input position and the count of draws. -/
inductive Part
  | a | x | y | sp | pc | flagN | flagV | flagB | flagD | flagI | flagZ | flagC | engine | mem | input | inputEnded
  | output | regions | decimalMode | jmpIndWrap

/-- The part is the same in both states. -/
@[simp] def Part.Same (s t : State) : Part → Prop
  | .a => t.a = s.a
  | .x => t.x = s.x
  | .y => t.y = s.y
  | .sp => t.sp = s.sp
  | .pc => t.pc = s.pc
  | .flagN => t.flagN = s.flagN
  | .flagV => t.flagV = s.flagV
  | .flagB => t.flagB = s.flagB
  | .flagD => t.flagD = s.flagD
  | .flagI => t.flagI = s.flagI
  | .flagZ => t.flagZ = s.flagZ
  | .flagC => t.flagC = s.flagC
  | .engine => t.engine = s.engine
  | .mem => t.mem = s.mem
  | .input => t.input = s.input
  | .inputEnded => t.inputEnded = s.inputEnded
  | .output => t.output = s.output
  | .regions => t.regions = s.regions
  | .decimalMode => t.decimalMode = s.decimalMode
  | .jmpIndWrap => t.jmpIndWrap = s.jmpIndWrap

theorem Part.Same.refl (q : Part) (s : State) : q.Same s s := by
  cases q <;> rfl

theorem Part.Same.trans {q : Part} {s t u : State} (h : q.Same s t) (h' : q.Same t u) : q.Same s u := by
  cases q <;> exact Eq.trans h' h

/-- Every part outside the list is in `t` as it is in `s`. -/
def ChangesOnly (ps : List Part) (s t : State) : Prop := ∀ q, q ∉ ps → q.Same s t

theorem ChangesOnly.refl (s : State) : ChangesOnly [] s s := fun q _ => .refl q s

theorem ChangesOnly.mono {ps qs : List Part} {s t : State} (h : ChangesOnly ps s t) (hs : ps ⊆ qs) :
    ChangesOnly qs s t := fun q hq => h q fun hp => hq (hs hp)

theorem ChangesOnly.append {ps qs : List Part} {s t u : State} (h : ChangesOnly ps s t) (h' : ChangesOnly qs t u) :
    ChangesOnly (ps ++ qs) s u := fun q hq => by
  rw [List.mem_append, not_or] at hq
  exact (h q hq.1).trans (h' q hq.2)

theorem Reads.changes {n : Nat} {s t : State} (h : Reads n s t) : ChangesOnly [] s t := by
  obtain ⟨k, d, rfl, -⟩ := h
  intro q _
  cases q <;> rfl

/-! ### What each update changes -/

theorem State.setA_changes (v : Byte) (s : State) : ChangesOnly [.a] s (s.setA v) := by
  intro q hq; cases q <;> simp at hq ⊢

theorem State.setX_changes (v : Byte) (s : State) : ChangesOnly [.x] s (s.setX v) := by
  intro q hq; cases q <;> simp at hq ⊢

theorem State.setY_changes (v : Byte) (s : State) : ChangesOnly [.y] s (s.setY v) := by
  intro q hq; cases q <;> simp at hq ⊢

theorem State.setSP_changes (v : Byte) (s : State) : ChangesOnly [.sp] s (s.setSP v) := by
  intro q hq; cases q <;> simp at hq ⊢

theorem State.setPC_changes (a : Addr) (s : State) : ChangesOnly [.pc] s (s.setPC a) := by
  intro q hq; cases q <;> simp at hq ⊢

theorem State.setV_changes (f : Bool) (s : State) : ChangesOnly [.flagV] s (s.setV f) := by
  intro q hq; cases q <;> simp at hq ⊢

theorem State.setD_changes (f : Bool) (s : State) : ChangesOnly [.flagD] s (s.setD f) := by
  intro q hq; cases q <;> simp at hq ⊢

theorem State.setI_changes (f : Bool) (s : State) : ChangesOnly [.flagI] s (s.setI f) := by
  intro q hq; cases q <;> simp at hq ⊢

theorem State.setC_changes (f : Bool) (s : State) : ChangesOnly [.flagC] s (s.setC f) := by
  intro q hq; cases q <;> simp at hq ⊢

theorem State.setEngine_changes (e : Engine) (s : State) : ChangesOnly [.engine] s (s.setEngine e) := by
  intro q hq; cases q <;> simp at hq ⊢

theorem State.setNZ_changes (v : Byte) (s : State) : ChangesOnly [.flagN, .flagZ] s (s.setNZ v) := by
  intro q hq; cases q <;> simp at hq ⊢

theorem State.setArith_changes (r : ArithResult) (s : State) :
    ChangesOnly [.a, .flagN, .flagV, .flagZ, .flagC] s (s.setArith r) := by
  intro q hq; cases q <;> simp at hq ⊢

theorem State.compare_changes (r m : Byte) (s : State) :
    ChangesOnly [.flagN, .flagZ, .flagC] s (s.compare r m) := by
  intro q hq; cases q <;> simp at hq ⊢

theorem State.bitTest_changes (m : Byte) (s : State) :
    ChangesOnly [.flagN, .flagV, .flagZ] s (s.bitTest m) := by
  intro q hq; cases q <;> simp at hq ⊢

theorem State.loadStatus_changes (p : Byte) (s : State) :
    ChangesOnly [.flagN, .flagV, .flagD, .flagI, .flagZ, .flagC] s (s.loadStatus p) := by
  intro q hq; cases q <;> simp at hq ⊢

theorem State.write_changes (a : Addr) (v : Byte) (s : State) : ChangesOnly [.mem, .output] s (s.write a v) := by
  intro q hq; cases q <;> simp at hq ⊢

theorem State.push_changes (v : Byte) (s : State) : ChangesOnly [.mem, .sp] s (s.push v) := by
  intro q hq; cases q <;> simp [State.push_output] at hq ⊢

/-! ### What each shape of instruction changes -/

theorem State.pull_changes {s t : State} {v : Byte} (h : s.pull = some (v, t)) : ChangesOnly [.sp] s t :=
  (State.setSP_changes _ s).append (State.pull_cases h).2.changes

theorem State.pullWord_changes {s t : State} {p : Addr} (h : s.pullWord = some (p, t)) : ChangesOnly [.sp, .sp] s t := by
  obtain ⟨lo, hi, u, h1, h2, -⟩ := State.pullWord_cases h
  exact (State.pull_changes h1).append (State.pull_changes h2)

theorem withSource_changes {src : Source} {f : Byte → State → State} {s t : State} {ps : List Part}
    (hf : ∀ v u, ChangesOnly ps u (f v u)) (h : withSource src f s = .next t) : ChangesOnly ps s t := by
  obtain ⟨v, u, hv, rfl⟩ := withSource_next.mp h
  exact (sourceValue_reads hv).changes.append (hf v u)

theorem storeReg_changes {m : MemOperand} {reg : State → Byte} {s t : State} (h : storeReg m reg s = .next t) :
    ChangesOnly [.mem, .output] s t := by
  obtain ⟨a, u, ha, rfl⟩ := storeReg_next.mp h
  exact (effectiveAddress_reads ha).changes.append (State.write_changes a _ u)

/-- The parts a shift or RMW instruction stores to: register A, or what a write can change. -/
def storedParts : Target → List Part
  | .accumulator => [.a]
  | .memory _ => [.mem, .output]

theorem modify_changes {tgt : Target} {f : Byte → Bool → Byte × (State → State)} {s t : State} {ps : List Part}
    (hf : ∀ v c u, ChangesOnly ps u ((f v c).2 u)) (h : modify tgt f s = .next t) :
    ChangesOnly (storedParts tgt ++ ps) s t := by
  cases tgt with
  | accumulator =>
    cases h
    exact (State.setA_changes _ s).append (hf _ _ _)
  | memory m =>
    obtain ⟨a, u, v, w, ha, hv, rfl⟩ := modify_memory.mp h
    exact ((effectiveAddress_reads ha).changes.append (State.read_reads hv).changes).append
      ((State.write_changes a _ w).append (hf v _ _))

theorem shiftFlags_changes (r : Byte) (out : Bool) (s : State) :
    ChangesOnly [.flagC, .flagN, .flagZ] s (shiftFlags r out s) :=
  (State.setC_changes out s).append (State.setNZ_changes r _)

theorem branchIf_changes {cond : Bool} {disp : Byte} {s t : State} (h : branchIf cond disp s = .next t) :
    ChangesOnly [.pc] s t := by
  cases h
  cases cond
  · exact (ChangesOnly.refl s).mono (List.nil_subset _)
  · exact State.setPC_changes _ s

/-! ### What each instruction changes -/

/-- The instructions the spec lists as writers of a part (rules R21 to R24, R28, R29, R30, R122, R139, R258). -/
def mayWrite (i : Instr) : Part → Bool
  | .a => mayWriteA i
  | .x => mayWriteX i
  | .y => mayWriteY i
  | .sp => mayWriteSP i
  | .pc => maySetPC i
  | .flagN | .flagZ => mayWriteNZ i
  | .flagV => mayWriteV i
  | .flagD => mayWriteD i
  | .flagI => mayWriteI i
  | .flagC => mayWriteC i
  | .engine => i.mnemonic == .brk
  | .mem => storesToOperand i || pushes i
  | .output => storesToOperand i
  | .flagB | .input | .inputEnded | .regions | .decimalMode | .jmpIndWrap => false

/-- What an instruction changes is within what it may write when the list of the operation it runs is. -/
theorem ChangesOnly.within {ps : List Part} {i : Instr} {s t : State} (h : ChangesOnly ps s t)
    (hps : ps.all (mayWrite i) = true) (q : Part) (hq : mayWrite i q = false) : q.Same s t :=
  h q fun hp => by simp [List.all_eq_true.mp hps q hp] at hq

theorem loadA_changes {src : Source} {s t : State} (h : loadA src s = .next t) :
    ChangesOnly [.a, .flagN, .flagZ] s t :=
  withSource_changes (fun v u => (State.setA_changes v u).append (State.setNZ_changes v _)) h

theorem loadX_changes {src : Source} {s t : State} (h : loadX src s = .next t) :
    ChangesOnly [.x, .flagN, .flagZ] s t :=
  withSource_changes (fun v u => (State.setX_changes v u).append (State.setNZ_changes v _)) h

theorem loadY_changes {src : Source} {s t : State} (h : loadY src s = .next t) :
    ChangesOnly [.y, .flagN, .flagZ] s t :=
  withSource_changes (fun v u => (State.setY_changes v u).append (State.setNZ_changes v _)) h

theorem addWithCarry_changes {src : Source} {s t : State} (h : addWithCarry src s = .next t) :
    ChangesOnly [.a, .flagN, .flagV, .flagZ, .flagC] s t :=
  withSource_changes (fun _ u => State.setArith_changes _ u) h

theorem subWithBorrow_changes {src : Source} {s t : State} (h : subWithBorrow src s = .next t) :
    ChangesOnly [.a, .flagN, .flagV, .flagZ, .flagC] s t :=
  withSource_changes (fun _ u => State.setArith_changes _ u) h

theorem andA_changes {src : Source} {s t : State} (h : andA src s = .next t) :
    ChangesOnly [.a, .flagN, .flagZ] s t :=
  withSource_changes (fun _ u => (State.setA_changes _ u).append (State.setNZ_changes _ _)) h

theorem orA_changes {src : Source} {s t : State} (h : orA src s = .next t) :
    ChangesOnly [.a, .flagN, .flagZ] s t :=
  withSource_changes (fun _ u => (State.setA_changes _ u).append (State.setNZ_changes _ _)) h

theorem xorA_changes {src : Source} {s t : State} (h : xorA src s = .next t) :
    ChangesOnly [.a, .flagN, .flagZ] s t :=
  withSource_changes (fun _ u => (State.setA_changes _ u).append (State.setNZ_changes _ _)) h

theorem testBits_changes {src : Source} {s t : State} (h : testBits src s = .next t) :
    ChangesOnly [.flagN, .flagV, .flagZ] s t :=
  withSource_changes (State.bitTest_changes) h

theorem compareA_changes {src : Source} {s t : State} (h : compareA src s = .next t) :
    ChangesOnly [.flagN, .flagZ, .flagC] s t :=
  withSource_changes (fun m u => State.compare_changes _ m u) h

theorem compareX_changes {src : Source} {s t : State} (h : compareX src s = .next t) :
    ChangesOnly [.flagN, .flagZ, .flagC] s t :=
  withSource_changes (fun m u => State.compare_changes _ m u) h

theorem compareY_changes {src : Source} {s t : State} (h : compareY src s = .next t) :
    ChangesOnly [.flagN, .flagZ, .flagC] s t :=
  withSource_changes (fun m u => State.compare_changes _ m u) h

theorem storeA_changes {m : MemOperand} {s t : State} (h : storeA m s = .next t) : ChangesOnly [.mem, .output] s t :=
  storeReg_changes h

theorem storeX_changes {m : MemOperand} {s t : State} (h : storeX m s = .next t) : ChangesOnly [.mem, .output] s t :=
  storeReg_changes h

theorem storeY_changes {m : MemOperand} {s t : State} (h : storeY m s = .next t) : ChangesOnly [.mem, .output] s t :=
  storeReg_changes h

theorem increment_changes {tgt : Target} {s t : State} (h : increment tgt s = .next t) :
    ChangesOnly (storedParts tgt ++ [.flagN, .flagZ]) s t :=
  modify_changes (fun _ _ u => State.setNZ_changes _ u) h

theorem decrement_changes {tgt : Target} {s t : State} (h : decrement tgt s = .next t) :
    ChangesOnly (storedParts tgt ++ [.flagN, .flagZ]) s t :=
  modify_changes (fun _ _ u => State.setNZ_changes _ u) h

theorem shiftLeft_changes {tgt : Target} {s t : State} (h : shiftLeft tgt s = .next t) :
    ChangesOnly (storedParts tgt ++ [.flagC, .flagN, .flagZ]) s t :=
  modify_changes (fun _ _ u => shiftFlags_changes _ _ u) h

theorem shiftRight_changes {tgt : Target} {s t : State} (h : shiftRight tgt s = .next t) :
    ChangesOnly (storedParts tgt ++ [.flagC, .flagN, .flagZ]) s t :=
  modify_changes (fun _ _ u => shiftFlags_changes _ _ u) h

theorem rotateLeft_changes {tgt : Target} {s t : State} (h : rotateLeft tgt s = .next t) :
    ChangesOnly (storedParts tgt ++ [.flagC, .flagN, .flagZ]) s t :=
  modify_changes (fun _ _ u => shiftFlags_changes _ _ u) h

theorem rotateRight_changes {tgt : Target} {s t : State} (h : rotateRight tgt s = .next t) :
    ChangesOnly (storedParts tgt ++ [.flagC, .flagN, .flagZ]) s t :=
  modify_changes (fun _ _ u => shiftFlags_changes _ _ u) h

/-- An instruction that completes leaves every part it is not listed for as it was. -/
theorem exec_changes {i : Instr} {s t : State} (h : exec i s = .next t) (q : Part) (hq : mayWrite i q = false) :
    q.Same s t := by
  revert q
  unfold exec at h -- each arm below is then, by reduction alone, the operation its lemma speaks of
  cases i with
  | ldaImm | ldaZp | ldaZpX | ldaAbs | ldaAbsX | ldaAbsY | ldaIndX | ldaIndY => exact (loadA_changes h).within rfl
  | ldxImm | ldxZp | ldxZpY | ldxAbs | ldxAbsY => exact (loadX_changes h).within rfl
  | ldyImm | ldyZp | ldyZpX | ldyAbs | ldyAbsX => exact (loadY_changes h).within rfl
  | staZp | staZpX | staAbs | staAbsX | staAbsY | staIndX | staIndY => exact (storeA_changes h).within rfl
  | stxZp | stxZpY | stxAbs => exact (storeX_changes h).within rfl
  | styZp | styZpX | styAbs => exact (storeY_changes h).within rfl
  | adcImm | adcZp | adcZpX | adcAbs | adcAbsX | adcAbsY | adcIndX | adcIndY =>
    exact (addWithCarry_changes h).within rfl
  | sbcImm | sbcZp | sbcZpX | sbcAbs | sbcAbsX | sbcAbsY | sbcIndX | sbcIndY =>
    exact (subWithBorrow_changes h).within rfl
  | andImm | andZp | andZpX | andAbs | andAbsX | andAbsY | andIndX | andIndY => exact (andA_changes h).within rfl
  | oraImm | oraZp | oraZpX | oraAbs | oraAbsX | oraAbsY | oraIndX | oraIndY => exact (orA_changes h).within rfl
  | eorImm | eorZp | eorZpX | eorAbs | eorAbsX | eorAbsY | eorIndX | eorIndY => exact (xorA_changes h).within rfl
  | bitZp | bitAbs => exact (testBits_changes h).within rfl
  | cmpImm | cmpZp | cmpZpX | cmpAbs | cmpAbsX | cmpAbsY | cmpIndX | cmpIndY => exact (compareA_changes h).within rfl
  | cpxImm | cpxZp | cpxAbs => exact (compareX_changes h).within rfl
  | cpyImm | cpyZp | cpyAbs => exact (compareY_changes h).within rfl
  | incZp | incZpX | incAbs | incAbsX => exact (increment_changes h).within rfl
  | decZp | decZpX | decAbs | decAbsX => exact (decrement_changes h).within rfl
  | aslAcc | aslZp | aslZpX | aslAbs | aslAbsX => exact (shiftLeft_changes h).within rfl
  | lsrAcc | lsrZp | lsrZpX | lsrAbs | lsrAbsX => exact (shiftRight_changes h).within rfl
  | rolAcc | rolZp | rolZpX | rolAbs | rolAbsX => exact (rotateLeft_changes h).within rfl
  | rorAcc | rorZp | rorZpX | rorAbs | rorAbsX => exact (rotateRight_changes h).within rfl
  | tax | tsx | inx | dex =>
    cases h; exact ((State.setX_changes _ s).append (State.setNZ_changes _ _)).within rfl
  | tay | iny | dey =>
    cases h; exact ((State.setY_changes _ s).append (State.setNZ_changes _ _)).within rfl
  | txa | tya => cases h; exact ((State.setA_changes _ s).append (State.setNZ_changes _ _)).within rfl
  | txs => cases h; exact (State.setSP_changes _ s).within rfl
  | pha | php => cases h; exact (State.push_changes _ s).within rfl
  | pla =>
    obtain ⟨⟨v, u⟩, hv, rfl⟩ := Option.map_eq_some_iff.mp (complete_next.mp h)
    exact ((State.pull_changes hv).append ((State.setA_changes v u).append (State.setNZ_changes v _))).within rfl
  | plp =>
    obtain ⟨⟨v, u⟩, hv, rfl⟩ := Option.map_eq_some_iff.mp (complete_next.mp h)
    exact ((State.pull_changes hv).append (State.loadStatus_changes v u)).within rfl
  | jmpAbs addr => cases h; exact (State.setPC_changes addr s).within rfl
  | jmpInd ptr =>
    obtain ⟨⟨p, u⟩, hp, rfl⟩ := Option.map_eq_some_iff.mp (complete_next.mp h)
    exact ((State.readPair_reads hp).changes.append (State.setPC_changes p u)).within rfl
  | jsr addr =>
    cases h
    exact (((State.push_changes _ s).append (State.push_changes _ _)).append (State.setPC_changes addr _)).within rfl
  | rts =>
    obtain ⟨⟨p, u⟩, hp, rfl⟩ := Option.map_eq_some_iff.mp (complete_next.mp h)
    exact ((State.pullWord_changes hp).append (State.setPC_changes _ u)).within rfl
  | rti =>
    obtain ⟨⟨v, u⟩, hv, h'⟩ := Option.bind_eq_some_iff.mp (complete_next.mp h)
    obtain ⟨⟨p, w⟩, hp, rfl⟩ := Option.map_eq_some_iff.mp h'
    exact (((State.pull_changes hv).append (State.loadStatus_changes v u)).append
      ((State.pullWord_changes hp).append (State.setPC_changes p w))).within rfl
  | bcc | bcs | beq | bmi | bne | bpl | bvc | bvs => exact (branchIf_changes h).within rfl
  | clc | sec => cases h; exact (State.setC_changes _ s).within rfl
  | cld | sed => cases h; exact (State.setD_changes _ s).within rfl
  | cli | sei => cases h; exact (State.setI_changes _ s).within rfl
  | clv => cases h; exact (State.setV_changes _ s).within rfl
  | nop => cases h; exact (ChangesOnly.refl s).within rfl
  | brk => cases h; exact (State.setEngine_changes _ s).within rfl

/-! ### What a step changes -/

theorem fetchByte_changes {s t : State} {v : Byte} (h : fetchByte s = some (v, t)) : ChangesOnly [.pc] s t := by
  obtain ⟨u, hu, rfl⟩ := fetchByte_cases h
  exact (State.read_reads hu).changes.append (State.setPC_changes _ u)

theorem fetchBytes_changes {n : Nat} {s t : State} {bs : List Byte} (h : fetchBytes n s = some (bs, t)) :
    ChangesOnly [.pc] s t := by
  induction n generalizing s bs with
  | zero =>
    cases h
    exact (ChangesOnly.refl _).mono (List.nil_subset _)
  | succ n ih =>
    obtain ⟨⟨b, u⟩, hb, h'⟩ := Option.bind_eq_some_iff.mp h
    obtain ⟨⟨rest, w⟩, hr, he⟩ := Option.map_eq_some_iff.mp h'
    cases he
    exact ((fetchByte_changes hb).append (ih hr)).mono (by simp)

/-- Where the fetch raises `InvalidOpcode`, it does so with the record of the opcode byte, after that byte and `n` more
are fetched. -/
theorem fetchInstr_invalidOpcode {s t : State} (h : fetchInstr s = .invalidOpcode t) :
    ∃ op s1 n bs u, fetchByte s = some (op, s1) ∧ fetchBytes n s1 = some (bs, u) ∧
      t = u.raiseInvalidOpcode s.pc op := by
  unfold fetchInstr at h
  split at h
  · cases h
  · rename_i op s1 h1
    split at h
    · rename_i d _
      unfold fetchOperands at h
      split at h
      · cases h
      · rename_i bs u hb
        split at h <;> cases h
        exact ⟨op, s1, d.operandCount, bs, u, h1, hb, rfl⟩
    · cases h
      exact ⟨op, s1, 0, [], s1, h1, rfl, rfl⟩

theorem fetchInstr_instr_changes {s t : State} {i : Instr} (h : fetchInstr s = .instr i t) :
    ChangesOnly [.pc] s t := by
  obtain ⟨op, s1, d, bs, r, h1, -, hb, -⟩ := fetchInstr_instr h
  exact ((fetchByte_changes h1).append (fetchBytes_changes hb)).mono (by simp)

theorem fetchInstr_invalidOpcode_changes {s t : State} (h : fetchInstr s = .invalidOpcode t) :
    ChangesOnly [.pc, .engine] s t := by
  obtain ⟨op, s1, n, bs, u, h1, hb, rfl⟩ := fetchInstr_invalidOpcode h
  exact (((fetchByte_changes h1).append (fetchBytes_changes hb)).append (State.setEngine_changes _ u)).mono (by simp)

/-- A part that no instruction is listed for is left as it is by every step. -/
theorem step_keeps {q : Part} (hq : ∀ i, mayWrite i q = false) {s t : State} (h : step s = .next t) : q.Same s t := by
  have hpc : q ≠ .pc := by rintro rfl; exact absurd (hq (.jmpAbs 0)) (by decide)
  have hengine : q ≠ .engine := by rintro rfl; exact absurd (hq .brk) (by decide)
  obtain ⟨i, u, -, hf, hx | ⟨-, rfl⟩⟩ | ⟨-, hf⟩ | rfl := step_cases h
  · exact (fetchInstr_instr_changes hf q (by simp [hpc])).trans (exec_changes hx q (hq i))
  · exact .refl q _
  · exact fetchInstr_invalidOpcode_changes hf q (by simp [hpc, hengine])
  · exact .refl q _

/-! ### The statements -/

/-- Settles O20: the launch parameters are parts that no instruction is listed for. -/
theorem stepsKeepTheLaunchParameters : Obligations.StepsKeepTheLaunchParameters := fun _ _ h =>
  ⟨step_keeps (q := .regions) (fun _ => rfl) h, step_keeps (q := .decimalMode) (fun _ => rfl) h,
    step_keeps (q := .jmpIndWrap) (fun _ => rfl) h, step_keeps (q := .input) (fun _ => rfl) h,
    step_keeps (q := .inputEnded) (fun _ => rfl) h⟩

/-- Settles O25: B is a part that no instruction is listed for. -/
theorem noStepWritesTheBreakFlag : Obligations.NoStepWritesTheBreakFlag := fun _ _ h =>
  step_keeps (q := .flagB) (fun _ => rfl) h

/-- Settles O26, from the frame of `exec`. -/
theorem onlyListedInstructionsWriteARegister : Obligations.OnlyListedInstructionsWriteARegister := fun _ _ _ h =>
  ⟨exec_changes h .a, exec_changes h .x, exec_changes h .y, exec_changes h .sp⟩

/-- Settles O27, from the frame of `exec`. -/
theorem onlyListedInstructionsWriteAFlag : Obligations.OnlyListedInstructionsWriteAFlag := fun _ _ _ h =>
  ⟨fun hw => ⟨exec_changes h .flagN hw, exec_changes h .flagZ hw⟩, exec_changes h .flagV, exec_changes h .flagB rfl,
    exec_changes h .flagD, exec_changes h .flagI, exec_changes h .flagC⟩

end Sys2Proof.Machine

/-! SUPPORT. The stack instructions, JSR and the returns, and the counting of X and Y, in numbers. -/

namespace Sys2Proof.Machine

open Sys2Proof.Claims

/-! ### Bytes and addresses as numbers -/

theorem stackAddr_eq (sp : Byte) : stackAddr sp = BitVec.ofNat 16 (256 + sp.toNat) :=
  BitVec.eq_of_toNat_eq (by have := sp.isLt; rw [stackAddr_toNat, BitVec.toNat_ofNat]; omega)

theorem word_eq_ofNat (hi lo : Byte) : word hi lo = BitVec.ofNat 16 (hi.toNat * 256 + lo.toNat) :=
  BitVec.eq_of_toNat_eq (by have := (word hi lo).isLt; rw [BitVec.toNat_ofNat, ← word_toNat]; omega)

theorem loByte_eq (v : Addr) : loByte v = BitVec.ofNat 8 (v.toNat % 256) :=
  BitVec.eq_of_toNat_eq (by rw [loByte_toNat, BitVec.toNat_ofNat]; omega)

theorem hiByte_eq (v : Addr) : hiByte v = BitVec.ofNat 8 (v.toNat / 256) :=
  BitVec.eq_of_toNat_eq (by have := v.isLt; rw [hiByte_toNat, BitVec.toNat_ofNat]; omega)

theorem byte_succ_eq (v : Byte) : v + 1 = BitVec.ofNat 8 (v.toNat + 1) := by bv_omega

theorem byte_pred_eq (v : Byte) : v - 1 = BitVec.ofNat 8 (v.toNat + 255) := by bv_omega

/-! ### Pushes -/

theorem State.push_eq (s : State) (v : Byte) :
    s.push v = { s.write (BitVec.ofNat 16 (256 + s.sp.toNat)) v with sp := BitVec.ofNat 8 (s.sp.toNat + 255) } := by
  rw [← stackAddr_eq, ← byte_pred_eq]
  rfl

/-- The bits of a byte added up from its eight flags. -/
theorem getLsbD_ofFlags : ∀ n v b5 b4 d i z c : Bool,
    let p := BitVec.ofNat 8 (n.toNat * 128 + v.toNat * 64 + b5.toNat * 32 + b4.toNat * 16 + d.toNat * 8 + i.toNat * 4
      + z.toNat * 2 + c.toNat)
    p.getLsbD 7 = n ∧ p.getLsbD 6 = v ∧ p.getLsbD 5 = b5 ∧ p.getLsbD 4 = b4 ∧ p.getLsbD 3 = d ∧ p.getLsbD 2 = i ∧
      p.getLsbD 1 = z ∧ p.getLsbD 0 = c := by
  decide

/-- Settles O37: both are a push, of A and of the status byte with bits 5 and 4 set. -/
theorem pushesWriteThenDecrement : Obligations.PushesWriteThenDecrement :=
  ⟨fun s => congrArg Host.Outcome.next (s.push_eq s.a),
    fun s => ⟨s.statusByte true true, congrArg Host.Outcome.next (s.push_eq _), getLsbD_ofFlags _ _ _ _ _ _ _ _⟩⟩

theorem eq_of_pushes {i : Instr} (h : pushes i = true) : i = .pha ∨ i = .php ∨ ∃ addr, i = .jsr addr := by
  cases i <;> simp [pushes, Instr.mnemonic] at h ⊢

/-- Settles O31: PHA and PHP push once, JSR twice, the second time at the next lower stack address. -/
theorem pushesChangeOnlyTheStack : Obligations.PushesChangeOnlyTheStack := by
  intro i s t h hp
  obtain rfl | rfl | ⟨addr, rfl⟩ := eq_of_pushes hp
  · cases h
    exact ⟨fun b hb _ => State.byteAt_push_other s _ b hb, State.push_output s _⟩
  · cases h
    exact ⟨fun b hb _ => State.byteAt_push_other s _ b hb, State.push_output s _⟩
  · cases h
    refine ⟨fun b hb hb' => ?_, (State.push_output _ _).trans (State.push_output s _)⟩
    exact (State.byteAt_push_other _ _ b (hb' rfl)).trans (State.byteAt_push_other s _ b hb)

/-- Two pushes are two writes, at SP and the next lower stack address, and SP lower by two. -/
theorem State.push_push_eq (s : State) (v w : Byte) :
    (s.push v).push w = ((s.write (stackAddr s.sp) v).write (stackAddr (s.sp - 1)) w).setSP (s.sp - 2) := by
  have hsp : s.sp - 1 - 1 = s.sp - 2 := by bv_omega
  unfold State.push
  rw [State.write_setSP, State.setSP_sp, hsp]
  rfl

/-- Settles O49: two pushes, of the high and the low byte of `s.pc - 1`, then the jump. -/
theorem jsrPushesTheReturnAddress : Obligations.JsrPushesTheReturnAddress := by
  intro s addr ret hret
  have hpc : s.pc - 1 = ret := by bv_omega
  rw [← hiByte_eq, ← loByte_eq, ← hpc]
  exact congrArg (fun t => Host.Outcome.next (State.setPC addr t)) (s.push_push_eq _ _)

/-! ### Pulls -/

theorem exec_pla_of_pull {s t : State} {v : Byte} (h : s.pull = some (v, t)) :
    exec .pla s = .next ((t.setA v).setNZ v) := by
  change execPla s = _
  simp [execPla, h]

theorem exec_plp_of_pull {s t : State} {v : Byte} (h : s.pull = some (v, t)) :
    exec .plp s = .next (t.loadStatus v) := by
  change execPlp s = _
  simp [execPlp, h]

/-- Settles O38: a pull reads the stack page, which is never $D010, so it always answers. -/
theorem pullsIncrementThenRead : Obligations.PullsIncrementThenRead := by
  refine ⟨fun s => ?_, fun s => ?_, fun s t v h => ?_⟩
  · have hsp : (s.sp + 1).toNat = (s.sp.toNat + 1) % 256 := BitVec.toNat_add s.sp 1
    rw [← byte_succ_eq, ← hsp, ← stackAddr_eq]
    rfl
  · obtain ⟨v, t, h, -⟩ := s.pull_answers
    exact ⟨v, t, h⟩
  · exact ⟨exec_pla_of_pull h, exec_plp_of_pull h⟩

/-- What RTI does once its three bytes are pulled: the flags it loads make no difference to the two pulls after. -/
theorem exec_rti_of_pulls {s t u w : State} {p lo hi : Byte} (h1 : s.pull = some (p, t)) (h2 : t.pull = some (lo, u))
    (h3 : u.pull = some (hi, w)) : exec .rti s = .next ((w.loadStatus p).setPC (word hi lo)) := by
  have h2' : (t.loadStatus p).pull = some (lo, u.loadStatus p) := by simp [State.pull_loadStatus, h2]
  have h3' : (u.loadStatus p).pull = some (hi, w.loadStatus p) := by simp [State.pull_loadStatus, h3]
  change execRti s = _
  simp [execRti, h1, State.pullWord_of h2' h3']

theorem exec_rts_of_pulls {s t u : State} {lo hi : Byte} (h1 : s.pull = some (lo, t)) (h2 : t.pull = some (hi, u)) :
    exec .rts s = .next (u.setPC (word hi lo + 1)) := by
  change execRts s = _
  simp [execRts, State.pullWord_of h1 h2]

/-- Settles O50: a pull always answers, so both complete. -/
theorem returnsPullThePc : Obligations.ReturnsPullThePc := by
  refine ⟨fun s t u lo hi h1 h2 => ?_, fun s t u w p lo hi h1 h2 h3 => ?_, fun s => ?_⟩
  · have hpc : word hi lo + 1 = BitVec.ofNat 16 ((hi.toNat * 256 + lo.toNat + 1) % 65536) := by
      rw [word_eq_ofNat]; bv_omega
    rw [exec_rts_of_pulls h1 h2, hpc]
    rfl
  · rw [exec_rti_of_pulls h1 h2 h3, word_eq_ofNat]
    rfl
  · obtain ⟨p, t, h1, -⟩ := s.pull_answers
    obtain ⟨lo, u, h2, -⟩ := t.pull_answers
    obtain ⟨hi, w, h3, -⟩ := u.pull_answers
    exact ⟨⟨_, exec_rts_of_pulls h1 h2⟩, ⟨_, exec_rti_of_pulls h1 h2 h3⟩⟩

/-! ### Counting -/

/-- Settles O46: the register written is the old one plus or minus one, as a byte. -/
theorem indexRegistersCountModulo256 : Obligations.IndexRegistersCountModulo256 := fun s =>
  ⟨⟨s.x + 1, BitVec.toNat_add _ _, rfl⟩, ⟨s.y + 1, BitVec.toNat_add _ _, rfl⟩,
    ⟨s.x - 1, by bv_omega, rfl⟩, ⟨s.y - 1, by bv_omega, rfl⟩⟩

end Sys2Proof.Machine

/-! SUPPORT. The reset state, registration, loading, launching and running. -/

namespace Sys2Proof.Machine

/-! ### Reset -/

/-- Settles O19: each field of `State.resetAt`, and an empty list of memory cells, which leaves every byte to `InitMem`. -/
theorem resetStateOfTheSpec : Obligations.ResetStateOfTheSpec :=
  ⟨fun _ => ⟨rfl, rfl, rfl, rfl, rfl, rfl, rfl, rfl, rfl, rfl, rfl, rfl, rfl, rfl, rfl, fun _ => rfl⟩, rfl⟩

/-- Settles O21: the empty memory is canonical, and the default layout keeps the region invariant. -/
theorem resetMeetsTheInvariant : Obligations.ResetMeetsTheInvariant := ⟨Memory.wf_nil, by decide, le_rfl⟩

/-! ### Registration keeps the region invariant -/

theorem regionsOverlap_comm (r q : Region) : regionsOverlap r q = regionsOverlap q r := Bool.and_comm _ _

theorem regionsWf_append {rs : List Region} {r : Region} (hrs : regionsWf rs = true) (hr : regionInBounds r = true)
    (hfree : rs.any (regionsOverlap r) = false) : regionsWf (rs ++ [r]) = true := by
  induction rs with
  | nil => simp [regionsWf, hr]
  | cons q rest ih =>
    simp only [regionsWf, Bool.and_eq_true, Bool.not_eq_true'] at hrs
    obtain ⟨⟨hq, hqfree⟩, hrest⟩ := hrs
    rw [List.any_cons, Bool.or_eq_false_iff] at hfree
    simp [regionsWf, hq, hqfree, regionsOverlap_comm q r, hfree.1, ih hrest hfree.2]

theorem registerRegion_wf {r : Region} {rs rs' : List Region} (hrs : regionsWf rs = true)
    (h : registerRegion r rs = .ok rs') : regionsWf rs' = true := by
  unfold registerRegion at h
  split_ifs at h with hr hfree
  cases h
  exact regionsWf_append hrs (by simpa using hr) (by simpa using hfree)

theorem registerAll_wf {new rs rs' : List Region} (hrs : regionsWf rs = true) (h : registerAll new rs = .ok rs') :
    regionsWf rs' = true := by
  induction new generalizing rs with
  | nil =>
    cases h
    exact hrs
  | cons r rest ih =>
    unfold registerAll at h
    split at h
    · exact ih (registerRegion_wf hrs ‹_›) h
    · cases h

/-! ### Loading -/

theorem loadWrite_some {a : Addr} {v : Byte} {s t : State} (h : loadWrite a v s = some t) :
    s.policy a ≠ .io ∧ t = s.putByte a v := by
  unfold loadWrite at h
  split at h
  · cases h
  all_goals
    rename_i hp
    cases h
    exact ⟨by simp [hp], rfl⟩

/-- A load of a byte and more puts the byte, then loads the rest from the next address on. -/
theorem loadBytes_cons {b : Byte} {rest : List Byte} {base : Nat} {s t : State}
    (h : loadBytes (b :: rest) base s = some t) :
    base < 65536 ∧ loadBytes rest (base + 1) (s.putByte (BitVec.ofNat 16 base) b) = some t := by
  simp only [loadBytes] at h
  split_ifs at h with hbase
  obtain ⟨u, hu, hr⟩ := Option.bind_eq_some_iff.mp h
  obtain ⟨-, rfl⟩ := loadWrite_some hu
  exact ⟨hbase, hr⟩

theorem loadBytes_mem {bs : List Byte} {base : Nat} {s t : State} (h : loadBytes bs base s = some t) :
    t = { s with mem := t.mem } := by
  induction bs generalizing base s with
  | nil => cases h; rfl
  | cons b rest ih => exact (ih (loadBytes_cons h).2).trans rfl

theorem byteAt_loadBytes_outside {bs : List Byte} {base : Nat} {s t : State} (h : loadBytes bs base s = some t)
    {a : Addr} (ha : a.toNat < base ∨ base + bs.length ≤ a.toNat) : t.byteAt a = s.byteAt a := by
  induction bs generalizing base s with
  | nil => cases h; rfl
  | cons b rest ih =>
    obtain ⟨hbase, hr⟩ := loadBytes_cons h
    rw [List.length_cons] at ha
    rw [ih hr (by omega)]
    refine State.byteAt_putByte_other s _ a b fun e => ?_
    have := congrArg BitVec.toNat e
    rw [BitVec.toNat_ofNat] at this
    omega

theorem byteAt_loadBytes {bs : List Byte} {base : Nat} {s t : State} (h : loadBytes bs base s = some t) (k : Nat)
    (hk : k < bs.length) : t.byteAt (BitVec.ofNat 16 (base + k)) = bs[k] := by
  induction bs generalizing base s k with
  | nil => cases hk
  | cons b rest ih =>
    obtain ⟨hbase, hr⟩ := loadBytes_cons h
    cases k with
    | zero =>
      rw [byteAt_loadBytes_outside hr (by rw [BitVec.toNat_ofNat]; omega)]
      exact State.byteAt_putByte_same s _ b
    | succ k =>
      have := ih hr k (Nat.lt_of_succ_lt_succ hk)
      rwa [Nat.add_right_comm] at this

/-! ### Launching -/

/-- A launch that succeeds went through all of its steps (rule R352). -/
theorem launch_ok {regions : List Region} {source : Text} {start : Option Addr} {s : State}
    (h : launch regions source start = .ok s) :
    ∃ rs out, registerAll regions [] = .ok rs ∧ assemble source (startAddress start) = .ok out ∧
      loadBytes out.bytes (startAddress start).toNat
        { State.resetAt (startAddress start) with regions := rs } = some s := by
  unfold launch at h
  split at h
  · cases h
  · split at h
    · cases h
    · split at h
      · cases h
      · cases h
        exact ⟨_, _, ‹_›, ‹_›, ‹_›⟩

/-- What a launch that succeeds leaves, from its load (rules R38, R350 to R352). -/
theorem launch_state {regions : List Region} {source : Text} {start : Option Addr} {s : State}
    (h : launch regions source start = .ok s) :
    ∃ rs out, registerAll regions [] = .ok rs ∧ assemble source (startAddress start) = .ok out ∧
      s = { State.resetAt (startAddress start) with regions := rs, mem := s.mem } ∧
      (∀ (k : Nat) (h : k < out.bytes.length),
        s.byteAt (BitVec.ofNat 16 ((startAddress start).toNat + k)) = out.bytes[k]) ∧
      (∀ a : Addr, (a.toNat < (startAddress start).toNat ∨
        (startAddress start).toNat + out.bytes.length ≤ a.toNat) → s.byteAt a = Config.initMem a.toNat) ∧
      s.Inv := by
  obtain ⟨rs, out, hrs, hout, hload⟩ := launch_ok h
  have hs := loadBytes_mem hload
  have hwf := wf_loadBytes _ _ _ _ Memory.wf_nil hload
  refine ⟨rs, out, hrs, hout, hs, byteAt_loadBytes hload, fun a ha => byteAt_loadBytes_outside hload ha, hwf, ?_, ?_⟩
  · rw [hs]
    exact registerAll_wf rfl hrs
  · rw [hs]
    exact Nat.zero_le _

/-- After a launch the input units the host supplies are all that it has supplied. -/
theorem supplyInput_launched {regions : List Region} {source : Text} {start : Option Addr} {s : State}
    (units : List Byte) (h : launch regions source start = .ok s) :
    supplyInput units s = { s with input := s.input ++ units } := by
  obtain ⟨rs, out, -, -, hs, -⟩ := launch_state h
  have hended : s.inputEnded = false := by rw [hs]; rfl
  simp [supplyInput, hended]

/-! ### Every step answers -/

/-- Every arm of `exec` is a completion: none refuses. -/
theorem exec_eq_complete (i : Instr) (s : State) : ∃ o, exec i s = complete o := by
  cases i with
  -- those that read nothing, and so answer whatever the state
  | tax | tay | tsx | txa | txs | tya | pha | php | inx | iny | dex | dey | jmpAbs | jsr | bcc | bcs | beq | bmi | bne
  | bpl | bvc | bvs | clc | cld | cli | clv | sec | sed | sei | nop | brk | ldaImm | ldxImm | ldyImm | adcImm | sbcImm
  | andImm | oraImm | eorImm | cmpImm | cpxImm | cpyImm | staZp | staZpX | staAbs | staAbsX | staAbsY | stxZp | stxZpY
  | stxAbs | styZp | styZpX | styAbs | aslAcc | lsrAcc | rolAcc | rorAcc => exact ⟨some _, rfl⟩
  | _ => exact ⟨_, rfl⟩

theorem settle_complete (s : State) (o : Option State) : ∃ t, settle s (complete o) = .next t := by
  cases o <;> exact ⟨_, rfl⟩

theorem step_answers (s : State) : ∃ t, step s = .next t := by
  unfold step
  split
  · split
    · rename_i i u _
      obtain ⟨o, ho⟩ := exec_eq_complete i u
      exact ho ▸ settle_complete s o
    · exact ⟨_, rfl⟩
    · exact ⟨_, rfl⟩
  · exact ⟨_, rfl⟩
  · exact ⟨_, rfl⟩

/-! ### Runs -/

/-- A report is of the engine's end (rules R326, R354). -/
theorem endReport_eq_some {s : State} {r : Report} (h : endReport s = some r) :
    (r = .halted ∧ s.engine = .halted) ∨
      ∃ addr byte, r = .invalidOpcode addr byte ∧ s.engine = .faulted .invalidOpcode addr byte := by
  unfold endReport at h
  split at h <;> cases h
  · exact .inl ⟨rfl, ‹_›⟩
  · exact .inr ⟨_, _, rfl, ‹_›⟩

/-- `s` reaches `t` in `k` steps, the engine running before each. -/
def RunsTo (k : Nat) (s t : State) : Prop :=
  runSteps k s = .next t ∧ ∀ j < k, ∃ u, runSteps j s = .next u ∧ u.engine = .running

theorem RunsTo.refl (s : State) : RunsTo 0 s s := ⟨rfl, fun _ hj => absurd hj (Nat.not_lt_zero _)⟩

theorem RunsTo.cons {k : Nat} {s t u : State} (hs : s.engine = .running) (ht : step s = .next t) (h : RunsTo k t u) :
    RunsTo (k + 1) s u := by
  obtain ⟨hu, hrun⟩ := h
  refine ⟨(runSteps_step k ht).trans hu, fun j hj => ?_⟩
  cases j with
  | zero => exact ⟨s, rfl, hs⟩
  | succ j =>
    rw [runSteps_step j ht]
    exact hrun j (Nat.lt_of_succ_lt_succ hj)

theorem runToEnd_some {n : Nat} {s t : State} {r : Report} (h : runToEnd n s = some (r, t)) :
    (∃ k ≤ n, RunsTo k s t) ∧ endReport t = some r := by
  induction n generalizing s with
  | zero =>
    obtain ⟨r', hr, he⟩ := Option.map_eq_some_iff.mp h
    cases he
    exact ⟨⟨0, le_rfl, .refl _⟩, hr⟩
  | succ n ih =>
    cases hr : endReport s with
    | some r' =>
      rw [runToEnd_ended _ hr] at h
      cases h
      exact ⟨⟨0, Nat.zero_le _, .refl _⟩, hr⟩
    | none =>
      have hs := endReport_eq_none.mp hr
      obtain ⟨u, hu⟩ := step_answers s
      rw [runToEnd_running n hs hu] at h
      obtain ⟨⟨k, hk, hrun⟩, ht⟩ := ih h
      exact ⟨⟨k + 1, Nat.succ_le_succ hk, hrun.cons hs hu⟩, ht⟩

theorem runToEnd_none {n : Nat} {s : State} (h : runToEnd n s = none) :
    ∃ t, runSteps n s = .next t ∧ t.engine = .running := by
  induction n generalizing s with
  | zero => exact ⟨s, rfl, endReport_eq_none.mp (Option.map_eq_none_iff.mp h)⟩
  | succ n ih =>
    cases hr : endReport s with
    | some r => simp [runToEnd_ended _ hr] at h
    | none =>
      obtain ⟨u, hu⟩ := step_answers s
      rw [runToEnd_running n (endReport_eq_none.mp hr) hu] at h
      rw [runSteps_step n hu]
      exact ih h

/-! ### The end of a run and its report -/

theorem RunEnd.failed_eq_false {e : RunEnd} : e.failed = false ↔ ∃ s, e = .ended .halted s := by
  rcases e with e | ⟨_ | _, s⟩ <;> simp [RunEnd.failed, Report.failed]

theorem RunEnd.failed_iff_message {e : RunEnd} : e.failed = true ↔ e.message.isSome = true := by
  rcases e with e | ⟨_ | _, s⟩ <;> simp [RunEnd.failed, Report.failed, RunEnd.message]

/-- Settles O59: the launch, the run that ends, the run that does not, the loader contract, and its report. -/
theorem launchLoadsAndResets : Obligations.LaunchLoadsAndResets := by
  refine ⟨fun _ _ _ _ => launch_state, fun n s t r h => ?_, fun _ _ => runToEnd_none,
    fun regions source start input n => ⟨fun e => loadAndRun_refused input n, fun s h => ?_⟩,
    fun e => ⟨RunEnd.failed_eq_false, RunEnd.failed_iff_message⟩⟩
  · obtain ⟨hrun, hr⟩ := runToEnd_some h
    exact ⟨hrun, endReport_eq_some hr⟩
  · rw [loadAndRun_launched input n h, supplyInput_launched input h]

end Sys2Proof.Machine

/-! SUPPORT. What the accesses of an instruction and of a step can do to the memory side of the state (regions, `Store`,
both streams), and when they await input: from this the invariant, the safety of ROM, the bounds on the streams and the
completion of every instruction follow. -/

namespace Sys2Proof.Machine

/-! ### Accesses -/

/-- From `s` to `t` at most `n` input units are taken, at most `w` output units are emitted, and no byte of `Store`
outside RAM changes; nothing is said of the registers, the flags, the engine or the draws. -/
structure Accesses (n w : Nat) (s t : State) : Prop where
  regions : t.regions = s.regions
  input : t.input = s.input
  pos_ge : s.inputPos ≤ t.inputPos
  pos_le : t.inputPos ≤ s.inputPos + n
  supplied : s.inputPos ≤ s.input.length → t.inputPos ≤ s.input.length
  output : ∃ new, t.output = s.output ++ new ∧ new.length ≤ w
  outsideRam : ∀ a, s.policy a ≠ .ram → t.byteAt a = s.byteAt a
  canonical : s.mem.wf = true → t.mem.wf = true

/-- What leaves the memory side as it is makes no access. -/
theorem Accesses.of_same {s t : State} (hregions : t.regions = s.regions) (hinput : t.input = s.input)
    (hpos : t.inputPos = s.inputPos) (hout : t.output = s.output) (hmem : t.mem = s.mem) : Accesses 0 0 s t where
  regions := hregions
  input := hinput
  pos_ge := hpos.ge
  pos_le := hpos.le
  supplied := fun h => hpos.le.trans h
  output := ⟨[], by simp [hout]⟩
  outsideRam := fun a _ => State.byteAt_congr hmem a
  canonical := fun h => hmem ▸ h

theorem Accesses.refl (s : State) : Accesses 0 0 s s := .of_same rfl rfl rfl rfl rfl

theorem Accesses.mono {n n' w w' : Nat} {s t : State} (h : Accesses n w s t) (hn : n ≤ n') (hw : w ≤ w') :
    Accesses n' w' s t :=
  let ⟨new, hnew, hlen⟩ := h.output
  { h with pos_le := h.pos_le.trans (by omega), output := ⟨new, hnew, hlen.trans hw⟩ }

theorem Accesses.trans {n n' w w' : Nat} {s t u : State} (h : Accesses n w s t) (h' : Accesses n' w' t u) :
    Accesses (n + n') (w + w') s u where
  regions := h'.regions.trans h.regions
  input := h'.input.trans h.input
  pos_ge := h.pos_ge.trans h'.pos_ge
  pos_le := by have := h.pos_le; have := h'.pos_le; omega
  supplied := fun hs => h.input ▸ h'.supplied (h.input.symm ▸ h.supplied hs)
  output := by
    obtain ⟨new, hnew, hlen⟩ := h.output
    obtain ⟨new', hnew', hlen'⟩ := h'.output
    exact ⟨new ++ new', by rw [hnew', hnew, List.append_assoc], by rw [List.length_append]; omega⟩
  outsideRam := fun a ha =>
    (h'.outsideRam a (by rwa [State.policy_congr h.regions])).trans (h.outsideRam a ha)
  canonical := fun hs => h'.canonical (h.canonical hs)

theorem Reads.accesses {n : Nat} {s t : State} (h : Reads n s t) : Accesses n 0 s t := by
  obtain ⟨k, d, rfl, hge, hle, hsupplied⟩ := h
  exact ⟨rfl, rfl, hge, hle, hsupplied, ⟨[], by simp⟩, fun _ _ => rfl, id⟩

theorem Writes.accesses {w : Nat} {s t : State} (h : Writes w s t) : Accesses 0 w s t := by
  obtain ⟨m, out, rfl, hbytes, hout, hwf⟩ := h
  exact ⟨rfl, rfl, le_rfl, le_rfl, id, hout, hbytes, hwf⟩

theorem State.setA_accesses (v : Byte) (s : State) : Accesses 0 0 s (s.setA v) := .of_same rfl rfl rfl rfl rfl

theorem State.setNZ_accesses (v : Byte) (s : State) : Accesses 0 0 s (s.setNZ v) := .of_same rfl rfl rfl rfl rfl

theorem State.setSP_accesses (v : Byte) (s : State) : Accesses 0 0 s (s.setSP v) := .of_same rfl rfl rfl rfl rfl

theorem State.loadStatus_accesses (p : Byte) (s : State) : Accesses 0 0 s (s.loadStatus p) :=
  .of_same rfl rfl rfl rfl rfl

theorem State.setPC_accesses (a : Addr) (s : State) : Accesses 0 0 s (s.setPC a) := .of_same rfl rfl rfl rfl rfl

theorem State.write_accesses (a : Addr) (v : Byte) (s : State) : Accesses 0 1 s (s.write a v) :=
  (State.write_writes a v s).accesses

/-- A push emits nothing, since the stack page holds no output address. -/
theorem State.push_accesses (v : Byte) (s : State) : Accesses 0 0 s (s.push v) :=
  { State.write_accesses (stackAddr s.sp) v s with output := ⟨[], by simp [State.push_output]⟩ }

theorem State.pull_accesses {s t : State} {v : Byte} (h : s.pull = some (v, t)) : Accesses 0 0 s t :=
  (State.setSP_accesses _ s).trans (State.pull_cases h).2.accesses

/-! ### Awaiting input -/

/-- A read of $D010 has no answer: it is an IO address and no unit is available (rule R68). -/
def State.Awaits (s : State) : Prop := s.policy consoleIn = .io ∧ s.input.length ≤ s.inputPos

/-- Accesses that take no unit leave a machine that awaits input only where it awaited input before. -/
theorem State.Awaits.before {w : Nat} {s t : State} (h : Accesses 0 w s t) (ht : t.Awaits) : s.Awaits := by
  obtain ⟨hp, hlen⟩ := ht
  rw [State.policy_congr h.regions] at hp
  rw [h.input] at hlen
  exact ⟨hp, hlen.trans h.pos_le⟩

/-- An operation that reads: it answers after taking at most one unit, or awaits input. -/
inductive Asks {α : Type} (s : State) : Option (α × State) → Prop
  | answers {v : α} {t : State} (h : Accesses 1 0 s t) : Asks s (some (v, t))
  | awaits (h : s.Awaits) : Asks s none

theorem Asks.of_some {α : Type} {s : State} {p : α × State} (h : Asks s (some p)) : Accesses 1 0 s p.2 := by
  cases h with
  | answers h' => exact h'

theorem Asks.of_none {α : Type} {s : State} (h : Asks (α := α) s none) : s.Awaits := by
  cases h with
  | awaits h' => exact h'

theorem Asks.of_reads {α : Type} {s t : State} {o : Option (α × State)} {v : α} (ho : o = some (v, t))
    (h : Reads 0 s t) : Asks s o := ho ▸ .answers (h.accesses.mono (Nat.zero_le 1) le_rfl)

/-- What happens before an operation that reads takes no unit. -/
theorem Asks.after {α : Type} {s t : State} {o : Option (α × State)} (h : Accesses 0 0 s t) (ho : Asks t o) :
    Asks s o := by
  cases ho with
  | answers h' => exact .answers (h.trans h')
  | awaits h' => exact .awaits (h'.before h)

/-- What happens after the answer takes no unit. -/
theorem Asks.map {α β : Type} {s : State} {o : Option (α × State)} {f : α × State → β × State} (ho : Asks s o)
    (hf : ∀ v t, Accesses 0 0 t (f (v, t)).2) : Asks s (o.map f) := by
  cases ho with
  | answers h => exact .answers (h.trans (hf _ _))
  | awaits h => exact .awaits h

theorem State.read_asks (s : State) (a : Addr) : Asks s (s.read a) := by
  cases h : s.read a with
  | none =>
    obtain ⟨hp, rfl, hlen⟩ := State.read_none h
    exact .awaits ⟨hp, hlen⟩
  | some p => exact .answers (State.read_reads h).accesses

/-- Of two reads at different addresses at most one takes a unit. -/
theorem State.readPair_asks (s : State) {a b : Addr} (hab : a ≠ b) : Asks s (s.readPair a b) := by
  unfold State.readPair
  by_cases ha : a = consoleIn
  · have hlo := State.read_asks s a
    cases hread : s.read a with
    | none => exact .awaits (hread ▸ hlo).of_none
    | some p =>
      obtain ⟨hi, u, hread', hr⟩ := State.read_elsewhere p.2 (a := b) (ha ▸ hab.symm)
      rw [Option.bind_some, hread']
      exact .answers ((hread ▸ hlo).of_some.trans hr.accesses)
  · obtain ⟨lo, u, hread, hr⟩ := State.read_elsewhere s ha
    rw [hread]
    exact ((State.read_asks u b).map fun _ t => Accesses.refl t).after hr.accesses

theorem sourceValue_asks (src : Source) (s : State) : Asks s (sourceValue src s) := by
  cases src with
  | immediate v => exact .of_reads rfl (Reads.refl s)
  | memory m =>
    obtain ⟨a, t, h, hr⟩ := effectiveAddress_answers m s
    simp only [sourceValue, h, Option.bind_some]
    exact (State.read_asks t a).after hr.accesses

/-- The high byte of a jump's target is read at another address than the low byte. -/
theorem ne_jumpHighAddr (wrap : JmpIndWrap) (ptr : Addr) : ptr ≠ jumpHighAddr wrap ptr := by
  unfold jumpHighAddr
  intro h
  split at h
  · rename_i hlo
    cases wrap with
    | pageWrap =>
      have := congrArg loByte h
      rw [loByte_word, hlo] at this
      exact absurd this (by decide)
    | linear => bv_omega
  · bv_omega

theorem indirectTarget_asks (ptr : Addr) (s : State) : Asks s (indirectTarget ptr s) :=
  State.readPair_asks s (ne_jumpHighAddr _ _)

/-! ### What each instruction does -/

/-- An execute phase that completes has taken at most one input unit and emitted at most one output unit, and one that
does not complete awaits input. -/
inductive Executes (s : State) : Result → Prop
  | completes {t : State} (h : Accesses 1 1 s t) : Executes s (.next t)
  | awaits (h : s.Awaits) : Executes s (.fault .inputAwaited)

theorem Executes.after {s t : State} {r : Result} (h : Accesses 0 0 s t) (hr : Executes t r) : Executes s r := by
  cases hr with
  | completes h' => exact .completes (h.trans h')
  | awaits h' => exact .awaits (h'.before h)

/-- An execute phase that does not read. -/
theorem Executes.of_accesses {s t : State} (h : Accesses 0 0 s t) : Executes s (.next t) :=
  .completes (h.mono (Nat.zero_le 1) (Nat.zero_le 1))

theorem Asks.executes {α : Type} {s : State} {o : Option (α × State)} {f : α × State → State} (ho : Asks s o)
    (hf : ∀ v t, Accesses 0 1 t (f (v, t))) : Executes s (complete (o.map f)) := by
  cases ho with
  | answers h => exact .completes (h.trans (hf _ _))
  | awaits h => exact .awaits h

theorem withSource_executes {src : Source} {f : Byte → State → State} {s : State}
    (hf : ∀ v t, Accesses 0 0 t (f v t)) : Executes s (withSource src f s) :=
  (sourceValue_asks src s).executes fun v t => (hf v t).mono le_rfl (Nat.zero_le 1)

theorem storeReg_executes (m : MemOperand) (reg : State → Byte) (s : State) : Executes s (storeReg m reg s) := by
  obtain ⟨a, t, h, hr⟩ := effectiveAddress_answers m s
  rw [storeReg_next.mpr ⟨a, t, h, rfl⟩]
  exact .after hr.accesses (.completes ((State.write_accesses a _ t).mono (Nat.zero_le 1) le_rfl))

theorem modify_executes {tgt : Target} {f : Byte → Bool → Byte × (State → State)} {s : State}
    (hf : ∀ v c t, Accesses 0 0 t ((f v c).2 t)) : Executes s (modify tgt f s) := by
  cases tgt with
  | accumulator =>
    rw [modify_accumulator]
    exact .of_accesses ((State.setA_accesses _ s).trans (hf _ _ _))
  | memory m =>
    obtain ⟨a, t, h, hr⟩ := effectiveAddress_answers m s
    simp only [modify, resolveTarget, loadPlace, storePlace, h, Option.map_some, Option.bind_some]
    exact ((State.read_asks t a).executes fun v u => (State.write_accesses a _ u).trans (hf v _ _)).after hr.accesses

theorem loadA_executes (src : Source) (s : State) : Executes s (loadA src s) :=
  withSource_executes fun _ _ => .of_same rfl rfl rfl rfl rfl

theorem loadX_executes (src : Source) (s : State) : Executes s (loadX src s) :=
  withSource_executes fun _ _ => .of_same rfl rfl rfl rfl rfl

theorem loadY_executes (src : Source) (s : State) : Executes s (loadY src s) :=
  withSource_executes fun _ _ => .of_same rfl rfl rfl rfl rfl

theorem addWithCarry_executes (src : Source) (s : State) : Executes s (addWithCarry src s) :=
  withSource_executes fun _ _ => .of_same rfl rfl rfl rfl rfl

theorem subWithBorrow_executes (src : Source) (s : State) : Executes s (subWithBorrow src s) :=
  withSource_executes fun _ _ => .of_same rfl rfl rfl rfl rfl

theorem andA_executes (src : Source) (s : State) : Executes s (andA src s) :=
  withSource_executes fun _ _ => .of_same rfl rfl rfl rfl rfl

theorem orA_executes (src : Source) (s : State) : Executes s (orA src s) :=
  withSource_executes fun _ _ => .of_same rfl rfl rfl rfl rfl

theorem xorA_executes (src : Source) (s : State) : Executes s (xorA src s) :=
  withSource_executes fun _ _ => .of_same rfl rfl rfl rfl rfl

theorem testBits_executes (src : Source) (s : State) : Executes s (testBits src s) :=
  withSource_executes fun _ _ => .of_same rfl rfl rfl rfl rfl

theorem compareA_executes (src : Source) (s : State) : Executes s (compareA src s) :=
  withSource_executes fun _ _ => .of_same rfl rfl rfl rfl rfl

theorem compareX_executes (src : Source) (s : State) : Executes s (compareX src s) :=
  withSource_executes fun _ _ => .of_same rfl rfl rfl rfl rfl

theorem compareY_executes (src : Source) (s : State) : Executes s (compareY src s) :=
  withSource_executes fun _ _ => .of_same rfl rfl rfl rfl rfl

theorem storeA_executes (m : MemOperand) (s : State) : Executes s (storeA m s) := storeReg_executes m _ s

theorem storeX_executes (m : MemOperand) (s : State) : Executes s (storeX m s) := storeReg_executes m _ s

theorem storeY_executes (m : MemOperand) (s : State) : Executes s (storeY m s) := storeReg_executes m _ s

theorem increment_executes (tgt : Target) (s : State) : Executes s (increment tgt s) :=
  modify_executes fun _ _ _ => .of_same rfl rfl rfl rfl rfl

theorem decrement_executes (tgt : Target) (s : State) : Executes s (decrement tgt s) :=
  modify_executes fun _ _ _ => .of_same rfl rfl rfl rfl rfl

theorem shiftLeft_executes (tgt : Target) (s : State) : Executes s (shiftLeft tgt s) :=
  modify_executes fun _ _ _ => .of_same rfl rfl rfl rfl rfl

theorem shiftRight_executes (tgt : Target) (s : State) : Executes s (shiftRight tgt s) :=
  modify_executes fun _ _ _ => .of_same rfl rfl rfl rfl rfl

theorem rotateLeft_executes (tgt : Target) (s : State) : Executes s (rotateLeft tgt s) :=
  modify_executes fun _ _ _ => .of_same rfl rfl rfl rfl rfl

theorem rotateRight_executes (tgt : Target) (s : State) : Executes s (rotateRight tgt s) :=
  modify_executes fun _ _ _ => .of_same rfl rfl rfl rfl rfl

theorem branchIf_executes (cond : Bool) (disp : Byte) (s : State) : Executes s (branchIf cond disp s) := by
  cases cond with
  | true => exact .of_accesses (State.setPC_accesses _ s)
  | false => exact .of_accesses (Accesses.refl s)

theorem exec_pla_executes (s : State) : Executes s (exec .pla s) := by
  obtain ⟨v, t, h, -⟩ := s.pull_answers
  rw [exec_pla_of_pull h]
  exact .of_accesses (((State.pull_accesses h).trans (State.setA_accesses v t)).trans (State.setNZ_accesses v _))

theorem exec_plp_executes (s : State) : Executes s (exec .plp s) := by
  obtain ⟨v, t, h, -⟩ := s.pull_answers
  rw [exec_plp_of_pull h]
  exact .of_accesses ((State.pull_accesses h).trans (State.loadStatus_accesses v t))

theorem exec_rts_executes (s : State) : Executes s (exec .rts s) := by
  obtain ⟨lo, t, hlo, -⟩ := s.pull_answers
  obtain ⟨hi, u, hhi, -⟩ := t.pull_answers
  rw [exec_rts_of_pulls hlo hhi]
  exact .of_accesses (((State.pull_accesses hlo).trans (State.pull_accesses hhi)).trans (State.setPC_accesses _ u))

theorem exec_rti_executes (s : State) : Executes s (exec .rti s) := by
  obtain ⟨p, t, hp, -⟩ := s.pull_answers
  obtain ⟨lo, u, hlo, -⟩ := t.pull_answers
  obtain ⟨hi, w, hhi, -⟩ := u.pull_answers
  rw [exec_rti_of_pulls hp hlo hhi]
  exact .of_accesses ((((State.pull_accesses hp).trans (State.pull_accesses hlo)).trans (State.pull_accesses hhi)).trans
    ((State.loadStatus_accesses p w).trans (State.setPC_accesses _ _)))

/-- No execute phase takes more than one input unit or emits more than one output unit (rule R124). -/
theorem exec_executes (i : Instr) (s : State) : Executes s (exec i s) := by
  unfold exec -- each arm below is then, by reduction alone, the operation its lemma speaks of
  cases i with
  | ldaImm | ldaZp | ldaZpX | ldaAbs | ldaAbsX | ldaAbsY | ldaIndX | ldaIndY => exact loadA_executes _ s
  | ldxImm | ldxZp | ldxZpY | ldxAbs | ldxAbsY => exact loadX_executes _ s
  | ldyImm | ldyZp | ldyZpX | ldyAbs | ldyAbsX => exact loadY_executes _ s
  | staZp | staZpX | staAbs | staAbsX | staAbsY | staIndX | staIndY => exact storeA_executes _ s
  | stxZp | stxZpY | stxAbs => exact storeX_executes _ s
  | styZp | styZpX | styAbs => exact storeY_executes _ s
  | adcImm | adcZp | adcZpX | adcAbs | adcAbsX | adcAbsY | adcIndX | adcIndY => exact addWithCarry_executes _ s
  | sbcImm | sbcZp | sbcZpX | sbcAbs | sbcAbsX | sbcAbsY | sbcIndX | sbcIndY => exact subWithBorrow_executes _ s
  | andImm | andZp | andZpX | andAbs | andAbsX | andAbsY | andIndX | andIndY => exact andA_executes _ s
  | oraImm | oraZp | oraZpX | oraAbs | oraAbsX | oraAbsY | oraIndX | oraIndY => exact orA_executes _ s
  | eorImm | eorZp | eorZpX | eorAbs | eorAbsX | eorAbsY | eorIndX | eorIndY => exact xorA_executes _ s
  | bitZp | bitAbs => exact testBits_executes _ s
  | cmpImm | cmpZp | cmpZpX | cmpAbs | cmpAbsX | cmpAbsY | cmpIndX | cmpIndY => exact compareA_executes _ s
  | cpxImm | cpxZp | cpxAbs => exact compareX_executes _ s
  | cpyImm | cpyZp | cpyAbs => exact compareY_executes _ s
  | incZp | incZpX | incAbs | incAbsX => exact increment_executes _ s
  | decZp | decZpX | decAbs | decAbsX => exact decrement_executes _ s
  | aslAcc | aslZp | aslZpX | aslAbs | aslAbsX => exact shiftLeft_executes _ s
  | lsrAcc | lsrZp | lsrZpX | lsrAbs | lsrAbsX => exact shiftRight_executes _ s
  | rolAcc | rolZp | rolZpX | rolAbs | rolAbsX => exact rotateLeft_executes _ s
  | rorAcc | rorZp | rorZpX | rorAbs | rorAbsX => exact rotateRight_executes _ s
  | tax | tay | tsx | txa | txs | tya | inx | iny | dex | dey | clc | cld | cli | clv | sec | sed | sei | nop | brk
  | jmpAbs => exact .of_accesses (.of_same rfl rfl rfl rfl rfl)
  | bcc | bcs | beq | bmi | bne | bpl | bvc | bvs => exact branchIf_executes _ _ s
  | pha | php => exact .of_accesses (State.push_accesses _ s)
  | pla => exact exec_pla_executes s
  | plp => exact exec_plp_executes s
  | jmpInd ptr =>
    exact (indirectTarget_asks ptr s).executes fun p t => (State.setPC_accesses p t).mono le_rfl (Nat.zero_le 1)
  | jsr addr =>
    exact .of_accesses (((State.push_accesses _ s).trans (State.push_accesses _ _)).trans (State.setPC_accesses addr _))
  | rts => exact exec_rts_executes s
  | rti => exact exec_rti_executes s

/-! ### What a fetch and a step do -/

theorem fetchByte_asks (s : State) : Asks s (fetchByte s) :=
  (State.read_asks s s.pc).map fun _ t => State.setPC_accesses _ t

/-- A byte fetched away from $D010 takes no unit. -/
theorem fetchByte_away {s : State} (h : s.pc ≠ consoleIn) :
    ∃ b t, fetchByte s = some (b, t) ∧ Accesses 0 0 s t := by
  obtain ⟨b, u, hread, hr⟩ := State.read_elsewhere s h
  exact ⟨b, u.setPC (u.pc + 1), by simp [fetchByte, hread], hr.accesses.trans (State.setPC_accesses _ u)⟩

/-- Bytes fetched away from $D010 take no unit. -/
theorem fetchBytes_away {n : Nat} {s : State} (h : ∀ k < n, s.pc + BitVec.ofNat 16 k ≠ consoleIn) :
    ∃ bs t, fetchBytes n s = some (bs, t) ∧ Accesses 0 0 s t := by
  induction n generalizing s with
  | zero => exact ⟨[], s, rfl, Accesses.refl s⟩
  | succ n ih =>
    obtain ⟨b, u, hb, hu⟩ := fetchByte_away (s := s) (by simpa using h 0 n.succ_pos)
    obtain ⟨bs, t, hbs, ht⟩ := ih (s := u) fun k hk => by
      have hnext : u.pc + BitVec.ofNat 16 k = s.pc + BitVec.ofNat 16 (k + 1) := by
        rw [fetchByte_pc hb, BitVec.ofNat_add, BitVec.add_assoc, BitVec.add_comm (BitVec.ofNat 16 k)]
        rfl
      exact hnext ▸ h (k + 1) (Nat.succ_lt_succ hk)
    exact ⟨b :: bs, t, by simp [fetchBytes, hb, hbs], hu.trans ht⟩

/-- Of bytes fetched at different addresses at most one takes a unit. -/
theorem fetchBytes_asks {n : Nat} (hn : n ≤ 65536) (s : State) : Asks s (fetchBytes n s) := by
  induction n generalizing s with
  | zero => exact .of_reads rfl (Reads.refl s)
  | succ n ih =>
    unfold fetchBytes
    by_cases hpc : s.pc = consoleIn
    · have hfirst := fetchByte_asks s
      cases hb : fetchByte s with
      | none => exact .awaits (hb ▸ hfirst).of_none
      | some p =>
        obtain ⟨bs, t, hbs, ht⟩ := fetchBytes_away (n := n) (s := p.2) fun k hk => by
          rw [fetchByte_pc hb, hpc]
          bv_omega
        rw [Option.bind_some, hbs]
        exact .answers ((hb ▸ hfirst).of_some.trans ht)
    · obtain ⟨b, u, hb, hu⟩ := fetchByte_away hpc
      rw [hb]
      exact ((ih (by omega) u).map fun _ t => Accesses.refl t).after hu

/-- What the fetch of an instruction comes to: it takes at most one input unit, or awaits input. -/
inductive Fetches (s : State) : Fetched → Prop
  | instr {i : Instr} {t : State} (h : Accesses 1 0 s t) : Fetches s (.instr i t)
  | invalidOpcode {t : State} (h : Accesses 1 0 s t) : Fetches s (.invalidOpcode t)
  | awaitsInput (h : s.Awaits) : Fetches s .awaitsInput

theorem State.raise_accesses (a : Addr) (b : Byte) (s : State) : Accesses 0 0 s (s.raiseInvalidOpcode a b) :=
  .of_same rfl rfl rfl rfl rfl

theorem fetchInstr_fetches (s : State) : Fetches s (fetchInstr s) := by
  have hfirst := fetchByte_asks s
  unfold fetchInstr
  split
  · rename_i hb
    exact .awaitsInput (hb ▸ hfirst).of_none
  · rename_i op s1 hb
    split
    · rename_i d _
      have hall : Asks s ((fetchBytes d.operandCount s1).map fun q => (op :: q.1, q.2)) := by
        have := operandCount_le d
        simpa [fetchBytes, hb] using fetchBytes_asks (n := d.operandCount + 1) (by omega) s
      unfold fetchOperands
      split
      · rename_i hbs
        exact .awaitsInput (hbs ▸ hall).of_none
      · rename_i operands t hbs
        have ht : Accesses 1 0 s t := (hbs ▸ hall).of_some
        split
        · exact .instr ht
        · exact .invalidOpcode (ht.trans (State.raise_accesses _ _ t))
    · exact .invalidOpcode ((hb ▸ hfirst).of_some.trans (State.raise_accesses _ _ s1))

theorem fetchInstr_instr_accesses {s t : State} {i : Instr} (h : fetchInstr s = .instr i t) : Accesses 1 0 s t := by
  have hs : Fetches s (.instr i t) := h ▸ fetchInstr_fetches s
  cases hs with
  | instr h' => exact h'

theorem fetchInstr_invalidOpcode_accesses {s t : State} (h : fetchInstr s = .invalidOpcode t) : Accesses 1 0 s t := by
  have hs : Fetches s (.invalidOpcode t) := h ▸ fetchInstr_fetches s
  cases hs with
  | invalidOpcode h' => exact h'

theorem exec_accesses {i : Instr} {s t : State} (h : exec i s = .next t) : Accesses 1 1 s t := by
  have hs : Executes s (.next t) := h ▸ exec_executes i s
  cases hs with
  | completes h' => exact h'

/-- A step takes at most two input units, one to fetch and one to execute, and emits at most one output unit. -/
theorem step_accesses {s t : State} (h : step s = .next t) : Accesses 2 1 s t := by
  obtain ⟨i, u, -, hf, hx | ⟨-, rfl⟩⟩ | ⟨-, hf⟩ | rfl := step_cases h
  · exact (fetchInstr_instr_accesses hf).trans (exec_accesses hx)
  · exact (Accesses.refl _).mono (Nat.zero_le 2) (Nat.zero_le 1)
  · exact (fetchInstr_invalidOpcode_accesses hf).mono (Nat.le_succ 1) (Nat.zero_le 1)
  · exact (Accesses.refl _).mono (Nat.zero_le 2) (Nat.zero_le 1)

/-! ### The statements about steps -/

/-- Settles O22: accesses keep the canonical form, the regions, and the bound of the input position. -/
theorem everyStepKeepsTheInvariant : Obligations.EveryStepKeepsTheInvariant := by
  intro s t ⟨hwf, hregions, hpos⟩ h
  have ha := step_accesses h
  exact ⟨ha.canonical hwf, ha.regions ▸ hregions, ha.input ▸ ha.supplied hpos⟩

/-- Settles O23: accesses change no byte outside RAM. -/
theorem stepsNeverChangeRom : Obligations.StepsNeverChangeRom := fun _ _ a ha h => (step_accesses h).outsideRam a ha

/-- Settles O24, from the bounds on the accesses of a step. -/
theorem stepsAdvanceTheStreams : Obligations.StepsAdvanceTheStreams := fun _ _ h =>
  ⟨(step_accesses h).output, (step_accesses h).pos_ge, (step_accesses h).pos_le⟩

end Sys2Proof.Machine

/-! SUPPORT. When a step awaits input and when it completes; the memory contract by policy; the region set and default
map; a load placed or refused; and the step at the bytes of an instruction. -/

namespace Sys2Proof.Machine

open Sys2Proof.Claims

/-! ### Awaiting and completing -/

theorem exec_awaits {i : Instr} {s : State} (h : exec i s = .fault .inputAwaited) : s.Awaits := by
  have hs : Executes s (.fault .inputAwaited) := h ▸ exec_executes i s
  cases hs with
  | awaits h' => exact h'

theorem fetchInstr_awaits {s : State} (h : fetchInstr s = .awaitsInput) : s.Awaits := by
  have hs : Fetches s .awaitsInput := h ▸ fetchInstr_fetches s
  cases hs with
  | awaitsInput h' => exact h'

theorem step_instr {s t : State} {i : Instr} (hs : s.engine = .running) (h : fetchInstr s = .instr i t) :
    step s = settle s (exec i t) := by
  simp [step, hs, h]

theorem step_invalidOpcode {s t : State} (hs : s.engine = .running) (h : fetchInstr s = .invalidOpcode t) :
    step s = .next t := by
  simp [step, hs, h]

theorem step_awaitsInput {s : State} (hs : s.engine = .running) (h : fetchInstr s = .awaitsInput) :
    step s = .next s := by
  simp [step, hs, h]

/-- Settles O10: an execute phase that does not complete awaits input. -/
theorem awaitedInputLeavesTheStateUnchanged : Obligations.AwaitedInputLeavesTheStateUnchanged := by
  refine ⟨fun _ => step_awaitsInput, fun s t i hs h hx => ?_, fun _ _ => exec_awaits⟩
  rw [step_instr hs h, hx, settle_inputAwaited]

theorem not_awaits {n : Nat} {s : State} (h : s.InputReady (n + 1) ∨ s.NoConsoleInput) : ¬ s.Awaits := by
  rintro ⟨hp, hlen⟩
  obtain hready | hno := h
  · unfold State.InputReady at hready
    omega
  · exact hno hp

/-- What takes at most one unit leaves the second of two available. -/
theorem Accesses.ready {s t : State} (ht : Accesses 1 0 s t) (h : s.InputReady 2 ∨ s.NoConsoleInput) :
    t.InputReady 1 ∨ t.NoConsoleInput := by
  have := ht.pos_le
  unfold State.InputReady State.NoConsoleInput at *
  rw [ht.input, State.policy_congr ht.regions]
  exact h.imp_left fun h => by omega

theorem exec_completes (i : Instr) {s : State} (h : s.InputReady 1 ∨ s.NoConsoleInput) : ∃ t, exec i s = .next t := by
  obtain ⟨_ | t, ho⟩ := exec_eq_complete i s
  · exact absurd (exec_awaits ho) (not_awaits h)
  · exact ⟨t, ho⟩

/-- Settles O11: neither the fetch nor the execute phase takes more than one unit, so with two neither awaits input. -/
theorem everyInstructionCompletesWithInput : Obligations.EveryInstructionCompletesWithInput := by
  refine ⟨fun i _ => exec_completes i, fun s hs h => ?_⟩
  cases hf : fetchInstr s with
  | instr i t =>
    obtain ⟨u, hu⟩ := exec_completes i ((fetchInstr_instr_accesses hf).ready h)
    exact .inl ⟨i, t, u, rfl, hu, by rw [step_instr hs hf, hu, settle_next]⟩
  | invalidOpcode t => exact .inr ⟨t, rfl, step_invalidOpcode hs hf⟩
  | awaitsInput => exact absurd (fetchInstr_awaits hf) (not_awaits h)

/-! ### The memory contract by policy -/

/-- An address in no region is default RAM (rule R61). -/
theorem State.policy_default {s : State} {a : Addr} (h : regionOf s.regions a = none) : s.policy a = .ram := by
  simp [State.policy, policyAt, h]

/-- Settles O13: a read by its policy, the console apart from the other IO addresses. -/
theorem readFollowsThePolicy : Obligations.ReadFollowsThePolicy := by
  intro s a
  refine ⟨fun h => ?_, fun h => ?_, fun h => ?_, ?_, ?_, fun h ha => State.read_draw h ha⟩
  · exact State.read_store (by simp [State.policy_default h])
  · exact State.read_store (by simp [h])
  · exact State.read_store (by simp [h])
  · rintro h rfl u hu
    rw [State.read_console h, hu]
    rfl
  · rintro h rfl hlen
    rw [State.read_console h, List.getElem?_eq_none hlen]
    rfl

/-- Settles O14: a write by its policy. -/
theorem writeFollowsThePolicy : Obligations.WriteFollowsThePolicy := by
  intro s a v
  refine ⟨fun h => ?_, fun h => ?_, fun h => ?_, ?_, fun h ha => ?_⟩
  · simp [State.write, State.policy_default h]
  · simp [State.write, h]
  · simp [State.write, h]
  · rintro h rfl
    simp [State.write, h, State.emit]
  · simp [State.write, h, ha]

/-- Settles O15: the write leaves the policy, so the read after it answers the byte in `Store`. -/
theorem readReturnsTheLastWrite : Obligations.ReadReturnsTheLastWrite := by
  refine fun s a v => ⟨fun h => ?_, fun b => State.byteAt_write_other s a b v⟩
  rw [State.read_store (by simp [h]), State.byteAt_write_ram s a v h]

/-! ### Regions -/

theorem regionInBounds_iff {r : Region} :
    regionInBounds r = true ↔ r.length ≠ 0 ∧ r.base.toNat + r.length ≤ 65536 := by
  simp [regionInBounds]

theorem regionContains_iff {r : Region} {a : Addr} :
    regionContains r a = true ↔ r.base.toNat ≤ a.toNat ∧ a.toNat < r.base.toNat + r.length := by
  simp [regionContains]

theorem regionsOverlap_iff {r q : Region} :
    regionsOverlap r q = true ↔ r.base.toNat < q.base.toNat + q.length ∧ q.base.toNat < r.base.toNat + r.length := by
  simp [regionsOverlap]

/-- For regions that are not empty the intersection test of rule R64 says that they share an address: the higher of the
two bases is one. -/
theorem regionsOverlap_iff_share {r q : Region} (hr : regionInBounds r = true) (hq : regionInBounds q = true) :
    regionsOverlap r q = true ↔ ∃ a, regionContains r a = true ∧ regionContains q a = true := by
  rw [regionInBounds_iff] at hr hq
  simp only [regionsOverlap_iff, regionContains_iff]
  constructor
  · intro h
    obtain hle | hle := Nat.le_total r.base.toNat q.base.toNat
    · exact ⟨q.base, by omega⟩
    · exact ⟨r.base, by omega⟩
  · rintro ⟨a, ha⟩
    omega

/-- The invariant of rule R65 as a property of the members and the pairs. -/
theorem regionsWf_iff {rs : List Region} : regionsWf rs = true ↔
    (∀ r ∈ rs, regionInBounds r = true) ∧ rs.Pairwise fun r q => regionsOverlap r q = false := by
  induction rs with
  | nil => simp [regionsWf]
  | cons r rest ih =>
    simp only [regionsWf, Bool.and_eq_true, Bool.not_eq_true', List.any_eq_false, Bool.not_eq_true, ih,
      List.forall_mem_cons, List.pairwise_cons]
    tauto

/-- Settles O16: two members that share an address overlap, which only a region and itself can. -/
theorem regionsStayDisjoint : Obligations.RegionsStayDisjoint := by
  refine ⟨fun rs r q a hrs hr hq hra hqa => ?_, fun _ _ _ => registerAll_wf⟩
  obtain ⟨hbounds, hdisjoint⟩ := regionsWf_iff.mp hrs
  have hshare : regionsOverlap r q = true :=
    (regionsOverlap_iff_share (hbounds r hr) (hbounds q hq)).mpr ⟨a, hra, hqa⟩
  have : Std.Symm fun r q => regionsOverlap r q = false := ⟨fun x y h => (regionsOverlap_comm y x).trans h⟩
  by_contra hne
  rw [hdisjoint.forall hr hq hne] at hshare
  cases hshare

/-- Settles O17: the bounds test, then the overlap test, which says that an address is shared. -/
theorem registrationChecksBoundsThenOverlap : Obligations.RegistrationChecksBoundsThenOverlap := by
  intro r rs hrs
  obtain ⟨hbounds, -⟩ := regionsWf_iff.mp hrs
  refine ⟨fun h => ?_, fun h0 hend hshare => ?_, fun h0 hend hfree => ?_⟩
  · have hr : regionInBounds r = false := by
      rw [← Bool.not_eq_true, regionInBounds_iff]
      omega
    simp [registerRegion, hr]
  · have hr : regionInBounds r = true := regionInBounds_iff.mpr ⟨h0, hend⟩
    obtain ⟨q, hq, hqa⟩ := hshare
    have hany : rs.any (regionsOverlap r) = true :=
      List.any_eq_true.mpr ⟨q, hq, (regionsOverlap_iff_share hr (hbounds q hq)).mpr hqa⟩
    simp only [registerRegion, hr, hany, if_true, Bool.true_eq_false, if_false]
  · have hr : regionInBounds r = true := regionInBounds_iff.mpr ⟨h0, hend⟩
    have hany : ¬ rs.any (regionsOverlap r) = true := fun h => by
      obtain ⟨q, hq, hqa⟩ := List.any_eq_true.mp h
      obtain ⟨a, ha⟩ := (regionsOverlap_iff_share hr (hbounds q hq)).mp hqa
      exact hfree q hq a ha
    simp only [registerRegion, hr, if_neg hany, Bool.true_eq_false, if_false]

theorem policyAt_nil (a : Addr) : policyAt [] a = .ram := rfl

theorem policyAt_cons (r : Region) (rs : List Region) (a : Addr) :
    policyAt (r :: rs) a = if regionContains r a = true then r.policy else policyAt rs a := by
  unfold policyAt regionOf
  rw [List.find?_cons]
  cases regionContains r a <;> rfl

/-- Settles O18: the lookup goes through the four regions in order. -/
theorem defaultMapOfTheSpec : Obligations.DefaultMapOfTheSpec := by
  refine ⟨by decide, fun a => ?_⟩
  have := a.isLt
  simp only [defaultRegions, policyAt_cons, policyAt_nil, regionContains_iff, BitVec.reduceToNat]
  split_ifs <;> try omega -- leaves the cases in which the two sides look at the same region
  all_goals rfl

/-! ### Loading -/

theorem loadWrite_io {a : Addr} {v : Byte} {s : State} (h : s.policy a = .io) : loadWrite a v s = none := by
  simp [loadWrite, h]

theorem loadWrite_store {a : Addr} {v : Byte} {s : State} (h : s.policy a ≠ .io) :
    loadWrite a v s = some (s.putByte a v) := by
  unfold loadWrite
  split
  · exact absurd ‹_› h
  all_goals rfl

theorem loadBytes_cons_isSome {b : Byte} {rest : List Byte} {base : Nat} {s : State} :
    (loadBytes (b :: rest) base s).isSome = true ↔ (base < 65536 ∧ s.policy (BitVec.ofNat 16 base) ≠ .io) ∧
      (loadBytes rest (base + 1) (s.putByte (BitVec.ofNat 16 base) b)).isSome = true := by
  by_cases hp : s.policy (BitVec.ofNat 16 base) = .io
  · simp [loadBytes, loadWrite_io hp, hp]
  · by_cases hbase : base < 65536
    · simp [loadBytes, loadWrite_store hp, hp, hbase]
    · simp [loadBytes, hbase]

theorem loadBytes_isSome {bs : List Byte} {base : Nat} {s : State} : (loadBytes bs base s).isSome = true ↔
    ∀ k < bs.length, base + k < 65536 ∧ s.policy (BitVec.ofNat 16 (base + k)) ≠ .io := by
  induction bs generalizing base s with
  | nil => simp [loadBytes]
  | cons b rest ih =>
    have hpolicy (a : Addr) : (s.putByte (BitVec.ofNat 16 base) b).policy a = s.policy a := State.policy_congr rfl a
    simp only [loadBytes_cons_isSome, ih, hpolicy, List.length_cons, Nat.forall_lt_succ_left, Nat.add_zero,
      Nat.add_right_comm base 1, Nat.add_assoc]

/-- Settles O58. -/
theorem loadPlacesItsBytes : Obligations.LoadPlacesItsBytes := fun _ _ _ =>
  ⟨loadBytes_isSome, fun _ h => ⟨loadBytes_mem h, byteAt_loadBytes h, fun _ => byteAt_loadBytes_outside h⟩⟩

/-! ### The step at the bytes of an instruction -/

/-- The descriptor of an instruction's opcode byte counts its operand bytes (rules R93, R94, R96). -/
theorem descriptor_opcode (i : Instr) :
    (descriptor i.opcode).map Descriptor.operandCount = some i.operand.bytes.length := by
  cases i <;> rfl

/-! The decoder reads an encoding back: by computation where there is no word operand, and else by putting the word's two
bytes together again. In each lemma `cases h` discards the instructions of other modes. -/

section

variable {i : Instr} (rest : List Byte)

theorem decode_encode_noOperand (h : i.mode.operandCount = 0) : decode (encode i ++ rest) = .ok (i, rest) := by
  cases i <;> try cases h
  all_goals rfl

theorem decode_encode_byteOperand (h : i.mode.operandCount = 1) : decode (encode i ++ rest) = .ok (i, rest) := by
  cases i <;> try cases h
  all_goals rfl

theorem decode_encode_absolute (h : i.mode = .absolute) : decode (encode i ++ rest) = .ok (i, rest) := by
  cases i <;> try cases h
  all_goals
    change Except.ok (_, rest) = _
    rw [word_hiByte_loByte]

theorem decode_encode_otherWordOperand (h : i.mode = .absoluteX ∨ i.mode = .absoluteY ∨ i.mode = .indirect) :
    decode (encode i ++ rest) = .ok (i, rest) := by
  cases i <;> try (obtain h | h | h := h <;> cases h)
  all_goals
    change Except.ok (_, rest) = _
    rw [word_hiByte_loByte]

end

/-- The decoder reads an encoding back, and leaves what follows it (rules R90 to R97). -/
theorem decode_encode (i : Instr) (rest : List Byte) : decode (encode i ++ rest) = .ok (i, rest) := by
  cases h : i.mode with
  | implied | accumulator => exact decode_encode_noOperand rest (by rw [h]; rfl)
  | absolute => exact decode_encode_absolute rest h
  | absoluteX | absoluteY | indirect => exact decode_encode_otherWordOperand rest (by simp [h])
  | immediate | zeroPage | zeroPageX | zeroPageY | relative | indirectX | indirectY =>
    exact decode_encode_byteOperand rest (by rw [h]; rfl)

/-- Fetching an instruction's bytes one after another is the fetch of the instruction. -/
theorem fetchInstr_of_bytes {s t : State} {i : Instr} (h : fetchBytes (encode i).length s = some (encode i, t)) :
    fetchInstr s = .instr i t := by
  obtain ⟨d, hd, hcount⟩ := Option.map_eq_some_iff.mp (descriptor_opcode i)
  rw [encode, List.length_cons, ← hcount] at h
  obtain ⟨⟨op, u⟩, hop, h'⟩ := Option.bind_eq_some_iff.mp h
  obtain ⟨⟨bs, w⟩, hbs, he⟩ := Option.map_eq_some_iff.mp h'
  obtain ⟨hbytes, rfl⟩ := Prod.mk.inj he
  obtain rfl : op = i.opcode := (List.cons.inj hbytes).1
  have hdec : decode (i.opcode :: bs) = .ok (i, []) := by
    have := decode_encode i []
    rwa [List.append_nil, encode, ← hbytes] at this
  simp only [fetchInstr, hop, hd, fetchOperands, hbs, hdec]

/-- Bytes that lie outside the IO regions are fetched by moving PC past them. -/
theorem fetchBytes_of_bytesAtPC {bs : List Byte} {s : State} (h : BytesAtPC bs s) :
    fetchBytes bs.length s = some (bs, { s with pc := s.pc + BitVec.ofNat 16 bs.length }) := by
  induction bs generalizing s with
  | nil => simp [fetchBytes]
  | cons b rest ih =>
    have hnext (k : Nat) : s.pc + 1 + BitVec.ofNat 16 k = s.pc + BitVec.ofNat 16 (k + 1) := by
      rw [BitVec.ofNat_add, BitVec.add_assoc, BitVec.add_comm (BitVec.ofNat 16 k)]
      rfl
    obtain ⟨hp, hb⟩ : s.policy s.pc ≠ .io ∧ s.byteAt s.pc = b := by simpa using h 0 (Nat.succ_pos _)
    have hrest : BytesAtPC rest (s.setPC (s.pc + 1)) := fun k hk => by
      have := h (k + 1) (Nat.succ_lt_succ hk)
      rw [← hnext] at this
      exact this
    rw [List.length_cons, ← hnext]
    simp only [fetchBytes, fetchByte_store hp, hb, Option.bind_some, ih hrest, Option.map_some]
    rfl

theorem step_of_bytes {s t : State} {i : Instr} (hs : s.engine = .running)
    (h : fetchBytes (encode i).length s = some (encode i, t)) : step s = settle s (exec i t) :=
  step_instr hs (fetchInstr_of_bytes h)

/-- Settles O6: the fetch of the bytes one by one is that of the instruction, and in memory it only moves PC. -/
theorem stepRunsTheDecodedInstruction : Obligations.StepRunsTheDecodedInstruction :=
  ⟨fun _ _ _ => step_of_bytes, fun _ _ hs h => step_of_bytes hs (fetchBytes_of_bytesAtPC h)⟩

/-- LDA of an absolute address is one read of it. -/
theorem exec_ldaAbs_read (addr : Addr) (s : State) :
    exec (.ldaAbs addr) s = complete ((s.read addr).map fun p => (p.2.setA p.1).setNZ p.1) := rfl

/-- Settles O12: the three bytes are fetched from memory, and the one read is of the console. -/
theorem loadFromTheConsoleTakesOneUnit : Obligations.LoadFromTheConsoleTakesOneUnit := by
  intro s hs hp hbytes
  have hstep := step_of_bytes hs (fetchBytes_of_bytesAtPC hbytes)
  have hfetched (a : Addr) : { s with pc := a }.read consoleIn =
      (s.input[s.inputPos]?).map fun u => (u, { s with pc := a }.consumeInput) := State.read_console hp
  rw [exec_ldaAbs_read, hfetched] at hstep
  refine ⟨fun u hu => ?_, fun hlen => ?_⟩
  · rw [hstep, hu]
    rfl
  · rw [hstep, List.getElem?_eq_none hlen]
    rfl

end Sys2Proof.Machine

/-! SUPPORT. The encoding: the decoder reads back what the encoder lays out and nothing else, it follows the descriptor
table, and the table has each mnemonic in the modes of rule R97. -/

namespace Sys2Proof

/-! ### Decode and encode -/

/-- Settles O1. -/
theorem decodeOfEncodeIsTheInstruction : Obligations.DecodeOfEncodeIsTheInstruction := Machine.decode_encode

/-- What the decoder can answer for an opcode byte and the bytes after it: it reads the operand of an instruction whose
encoding begins with that byte and has none, one or two bytes more, or it rejects the byte. -/
inductive OpcodeAnswer (op : Byte) (bs : List Byte) : Decoded → Prop
  | noOperand (i : Instr) (h : encode i = [op]) : OpcodeAnswer op bs (noOperand i bs)
  | byteOperand (mk : Byte → Instr) (h : ∀ b, encode (mk b) = [op, b]) : OpcodeAnswer op bs (byteOperand op mk bs)
  | wordOperand (mk : Addr → Instr) (h : ∀ a, encode (mk a) = [op, loByte a, hiByte a]) :
      OpcodeAnswer op bs (wordOperand op mk bs)
  | invalid : OpcodeAnswer op bs (.error (.invalidOpcode op))

theorem encode_of_opcode_toNat {i : Instr} {op : Byte} {bs : List Byte} {n : Nat} (hop : op.toNat = n)
    (hi : i.opcode.toNat = n) (hbytes : i.operand.bytes = bs) : encode i = op :: bs := by
  rw [encode, hbytes, BitVec.eq_of_toNat_eq (hi.trans hop.symm)]

/-- Each arm of the decoder makes instructions whose opcode is the arm's number. -/
theorem decodeOpcode_answer (op : Byte) (bs : List Byte) : OpcodeAnswer op bs (decodeOpcode op bs) := by
  unfold decodeOpcode
  split
  all_goals constructor -- the shape of the arm; the last arm is done
  all_goals intros
  all_goals exact encode_of_opcode_toNat ‹op.toNat = _› rfl rfl

section

variable {op : Byte} {bs : List Byte} {r : Decoded}

theorem OpcodeAnswer.eq_encode (h : OpcodeAnswer op bs r) {i : Instr} {rest : List Byte} (hr : r = .ok (i, rest)) :
    op :: bs = encode i ++ rest := by
  cases h with
  | noOperand j h =>
    cases hr
    rw [h, List.singleton_append]
  | byteOperand mk h =>
    match bs, hr with
    | b :: bs, rfl => rw [h]; rfl
  | wordOperand mk h =>
    match bs, hr with
    | lo :: hi :: bs, rfl => rw [h, loByte_word, hiByte_word]; rfl
  | invalid => cases hr

/-- A byte that no encoding begins with is rejected as such. -/
theorem OpcodeAnswer.eq_invalidOpcode (h : OpcodeAnswer op bs r) (hop : ∀ i l, encode i ≠ op :: l) :
    r = .error (.invalidOpcode op) := by
  cases h with
  | noOperand i h => exact absurd h (hop _ _)
  | byteOperand mk h => exact absurd (h 0) (hop _ _)
  | wordOperand mk h => exact absurd (h 0) (hop _ _)
  | invalid => rfl

end

/-- What was decoded encodes to the bytes it was decoded from (rules R90 to R97). -/
theorem encode_of_decode {bs rest : List Byte} {i : Instr} (h : decode bs = .ok (i, rest)) : bs = encode i ++ rest := by
  cases bs with
  | nil => cases h
  | cons op bs => exact (decodeOpcode_answer op bs).eq_encode h

/-- Settles O2, from what each arm of the decoder reads. -/
theorem encodeOfDecodedIsTheBytes : Obligations.EncodeOfDecodedIsTheBytes := fun _ _ _ => encode_of_decode

/-! ### The descriptor table -/

open Laws.Listed in
/-- The family `Listed` as one statement. -/
theorem instr_listed (i : Instr) : Statement i := by
  cases i
  exacts [
    ldaImm _, ldaZp _, ldaZpX _, ldaAbs _, ldaAbsX _, ldaAbsY _, ldaIndX _, ldaIndY _, ldxImm _, ldxZp _, ldxZpY _, ldxAbs _,
    ldxAbsY _, ldyImm _, ldyZp _, ldyZpX _, ldyAbs _, ldyAbsX _, staZp _, staZpX _, staAbs _, staAbsX _, staAbsY _, staIndX _,
    staIndY _, stxZp _, stxZpY _, stxAbs _, styZp _, styZpX _, styAbs _, tax, tay, tsx, txa, txs, tya, pha, php, pla, plp,
    adcImm _, adcZp _, adcZpX _, adcAbs _, adcAbsX _, adcAbsY _, adcIndX _, adcIndY _, sbcImm _, sbcZp _, sbcZpX _, sbcAbs _,
    sbcAbsX _, sbcAbsY _, sbcIndX _, sbcIndY _, andImm _, andZp _, andZpX _, andAbs _, andAbsX _, andAbsY _, andIndX _,
    andIndY _, oraImm _, oraZp _, oraZpX _, oraAbs _, oraAbsX _, oraAbsY _, oraIndX _, oraIndY _, eorImm _, eorZp _, eorZpX _,
    eorAbs _, eorAbsX _, eorAbsY _, eorIndX _, eorIndY _, bitZp _, bitAbs _, cmpImm _, cmpZp _, cmpZpX _, cmpAbs _, cmpAbsX _,
    cmpAbsY _, cmpIndX _, cmpIndY _, cpxImm _, cpxZp _, cpxAbs _, cpyImm _, cpyZp _, cpyAbs _, incZp _, incZpX _, incAbs _,
    incAbsX _, inx, iny, decZp _, decZpX _, decAbs _, decAbsX _, dex, dey, aslAcc, aslZp _, aslZpX _, aslAbs _, aslAbsX _,
    lsrAcc, lsrZp _, lsrZpX _, lsrAbs _, lsrAbsX _, rolAcc, rolZp _, rolZpX _, rolAbs _, rolAbsX _, rorAcc, rorZp _, rorZpX _,
    rorAbs _, rorAbsX _, jmpAbs _, jmpInd _, jsr _, rts, rti, bcc _, bcs _, beq _, bmi _, bne _, bpl _, bvc _, bvs _, clc, cld,
    cli, clv, sec, sed, sei, nop, brk]

theorem descriptor_of_instr (i : Instr) : ∃ d, descriptor i.opcode = some d ∧ i.mnemonic = d.mnemonic ∧
    i.mode = d.mode ∧ (encode i).length = 1 + d.operandCount := by
  obtain ⟨-, hpair, hlen⟩ := instr_listed i
  obtain ⟨d, hd, he⟩ := Option.map_eq_some_iff.mp hpair
  obtain ⟨hmn, hmd⟩ := Prod.mk.inj he
  rw [← hmd] at hlen
  exact ⟨d, hd, hmn.symm, hmd.symm, hlen⟩

/-- The opcode of each descriptor is an arm of the decoder. -/
theorem decode_isOk_of_mem_opcodeTable {d : Descriptor} (h : d ∈ opcodeTable) (b1 b2 : Byte) :
    (decode [d.opcode, b1, b2]).isOk = true := by
  have hall : opcodeTable.all (fun d => (decode [d.opcode, b1, b2]).isOk) = true := by
    simp only [opcodeTable, List.all_append, Bool.and_eq_true]
    refine ⟨⟨⟨⟨⟨⟨⟨?_, ?_⟩, ?_⟩, ?_⟩, ?_⟩, ?_⟩, ?_⟩, ?_⟩
    all_goals rfl
  exact List.all_eq_true.mp hall d h

theorem exists_decode_of_descriptor {op : Byte} {d : Descriptor} (h : descriptor op = some d) (b1 b2 : Byte) :
    ∃ i rest, decode [op, b1, b2] = .ok (i, rest) := by
  have hok := decode_isOk_of_mem_opcodeTable (List.mem_of_find?_eq_some h) b1 b2
  rw [show d.opcode = op by simpa using List.find?_some h] at hok
  match hdec : decode [op, b1, b2] with
  | .ok (i, rest) => exact ⟨i, rest, rfl⟩
  | .error e => rw [hdec] at hok; cases hok

/-- Settles O3: the bytes decoded are the encoding of the instruction, and its opcode's descriptor is the one it is listed
with; so a byte with no descriptor begins no encoding. -/
theorem decoderFollowsTheDescriptorTable : Obligations.DecoderFollowsTheDescriptorTable := by
  intro op b1 b2
  refine ⟨fun d hd => ?_, fun hnone => (decodeOpcode_answer op [b1, b2]).eq_invalidOpcode fun i l he => ?_⟩
  · obtain ⟨i, rest, hdec⟩ := exists_decode_of_descriptor hd b1 b2
    have hbytes := encode_of_decode hdec
    obtain rfl : op = i.opcode := (List.cons.inj hbytes).1
    obtain ⟨d', hd', hmn, hmd, hlen⟩ := descriptor_of_instr i
    obtain rfl : d = d' := Option.some.inj (hd.symm.trans hd')
    have hrest : 3 = (encode i).length + rest.length := by simpa using congrArg List.length hbytes
    exact ⟨i, rest, hdec, rfl, hmn, hmd, hlen, by omega⟩
  · obtain ⟨d, hd, -⟩ := descriptor_of_instr i
    rw [(List.cons.inj he).1, hnone] at hd
    cases hd

/-! ### Mnemonics and their modes -/

theorem hasMode_of_mem_opcodeTable {d : Descriptor} (h : d ∈ opcodeTable) : d.mnemonic.hasMode d.mode = true := by
  have hall : opcodeTable.all (fun d => d.mnemonic.hasMode d.mode) = true := by rfl
  exact List.all_eq_true.mp hall d h

theorem opcodeOf_isSome_of_mem_modes (mn : Mnemonic) : ∀ md ∈ mn.modes, (opcodeOf mn md).isSome = true := by
  cases mn <;> decide

/-- The table has an opcode for a pair exactly when the pair is one of rule R97. -/
theorem hasMode_iff_opcodeOf {mn : Mnemonic} {md : Mode} : mn.hasMode md = true ↔ (opcodeOf mn md).isSome = true := by
  refine ⟨fun h => opcodeOf_isSome_of_mem_modes mn md (List.contains_iff_mem.mp h), fun h => ?_⟩
  obtain ⟨d, hmem, hpair⟩ : ∃ d ∈ opcodeTable, d.mnemonic = mn ∧ d.mode = md := by simpa [opcodeOf] using h
  obtain ⟨rfl, rfl⟩ := hpair
  exact hasMode_of_mem_opcodeTable hmem

/-- Settles O4. -/
theorem instructionsHaveTheirMnemonicsModes : Obligations.InstructionsHaveTheirMnemonicsModes :=
  ⟨fun i => (instr_listed i).1, fun _ _ => Bool.eq_iff_iff.mpr hasMode_iff_opcodeOf⟩

/-- Rules R96 and R98: 151 defined opcodes, 105 bytes with no descriptor. -/
theorem count_of_descriptors :
    ((List.range 256).filter fun n => (descriptor (BitVec.ofNat 8 n)).isSome).length = 151 := by rfl

/-- Settles O5: each word by running the decoder on its bytes. -/
theorem wordsOfTheSpecDecode : Obligations.WordsOfTheSpecDecode :=
  ⟨rfl, rfl, rfl, rfl, rfl, rfl, rfl, rfl, rfl, count_of_descriptors⟩

end Sys2Proof

/-! SUPPORT. Instructions by their operand: the read, store, RMW and branch instructions each as one shared operation
with an effect that depends on the mnemonic alone; from this their results and the frame of `Store` follow. -/

namespace Sys2Proof.Machine

open Sys2Proof.Claims

/-! ### The effect of a mnemonic -/

/-- What a read instruction does with its operand, by its mnemonic (rules R160 to R162, R193 to R202). -/
def readEffect : Mnemonic → Option (Byte → State → State)
  | .lda => some fun v t => (t.setA v).setNZ v
  | .ldx => some fun v t => (t.setX v).setNZ v
  | .ldy => some fun v t => (t.setY v).setNZ v
  | .adc => some State.addToA
  | .sbc => some State.subFromA
  | .and => some fun m t => (t.setA (t.a &&& m)).setNZ (t.a &&& m)
  | .ora => some fun m t => (t.setA (t.a ||| m)).setNZ (t.a ||| m)
  | .eor => some fun m t => (t.setA (t.a ^^^ m)).setNZ (t.a ^^^ m)
  | .bit => some State.bitTest
  | .cmp => some fun m t => t.compare t.a m
  | .cpx => some fun m t => t.compare t.x m
  | .cpy => some fun m t => t.compare t.y m
  | _ => none

/-- The register a store instruction writes to memory, by its mnemonic (rules R163 to R165). -/
def storedReg : Mnemonic → Option (State → Byte)
  | .sta => some State.a
  | .stx => some State.x
  | .sty => some State.y
  | _ => none

/-- What a shift or RMW instruction makes of its byte and the carry, and what it then does to the flags, by its mnemonic
(rules R210, R213, R216 to R219). -/
def rmwEffect : Mnemonic → Option (Byte → Bool → Byte × (State → State))
  | .inc => some fun v _ => (v + 1, State.setNZ (v + 1))
  | .dec => some fun v _ => (v - 1, State.setNZ (v - 1))
  | .asl => some fun v _ => (v <<< 1, shiftFlags (v <<< 1) (v.getLsbD 7))
  | .lsr => some fun v _ => (v >>> 1, shiftFlags (v >>> 1) (v.getLsbD 0))
  | .rol => some fun v cin => ((v <<< 1) ||| bitZero cin, shiftFlags ((v <<< 1) ||| bitZero cin) (v.getLsbD 7))
  | .ror => some fun v cin => ((v >>> 1) ||| bitSeven cin, shiftFlags ((v >>> 1) ||| bitSeven cin) (v.getLsbD 0))
  | _ => none

/-! In each lemma the first line leaves the instructions whose mnemonic has the effect, and the next puts their operand in
its place. -/

section

variable {i : Instr} {s : State}

theorem exec_eq_withSource {src : Source} {f : Byte → State → State} (hf : readEffect i.mnemonic = some f)
    (ho : i.operand = src.operand) : exec i s = withSource src f s := by
  cases i <;> cases hf
  all_goals
    cases src <;> cases ho
    rfl

theorem exec_eq_storeReg {m : MemOperand} {reg : State → Byte} (hreg : storedReg i.mnemonic = some reg)
    (ho : i.operand = .memory m) : exec i s = storeReg m reg s := by
  cases i <;> cases hreg
  all_goals cases ho; rfl

theorem exec_eq_modify {tgt : Target} {f : Byte → Bool → Byte × (State → State)} (hf : rmwEffect i.mnemonic = some f)
    (ho : i.operand = tgt.operand) : exec i s = modify tgt f s := by
  cases i <;> cases hf
  all_goals
    cases tgt <;> cases ho
    rfl

theorem exec_eq_branchIf {disp : Byte} {cond : Bool} (hc : branchCondition i.mnemonic s = some cond)
    (ho : i.operand = .relative disp) : exec i s = branchIf cond disp s := by
  cases i <;> cases hc
  all_goals cases ho; rfl

end

/-! ### Addresses in numbers -/

theorem zeroPageAddr_eq (zp : Byte) : zeroPageAddr zp = BitVec.ofNat 16 zp.toNat :=
  BitVec.eq_of_toNat_eq (by rw [zeroPageAddr_toNat, BitVec.toNat_ofNat]; omega)

/-- An index is added modulo 65536 (rules R131, R132). -/
theorem add_index_eq (a : Addr) (v : Byte) :
    a + v.setWidth 16 = BitVec.ofNat 16 ((a.toNat + v.toNat) % 65536) := by bv_omega

/-- Settles O32: a zero-page sum is a sum of bytes, an absolute one a sum of addresses. -/
theorem directAddressesWrap : Obligations.DirectAddressesWrap := by
  intro s zp addr
  simp only [effectiveAddress, zeroPageAddr_eq, add_index_eq, BitVec.toNat_add, and_self]

/-- Settles O33: both pointer bytes are read in page zero, so the pointer is a pair read there. -/
theorem pointersLieInPageZero : Obligations.PointersLieInPageZero := by
  intro s t u zp lo hi
  refine ⟨fun hlo hhi => ?_, fun hlo hhi => ?_⟩
  · have hp : zeroPageAddr (zp + s.x) = BitVec.ofNat 16 ((zp.toNat + s.x.toNat) % 256) := by
      rw [zeroPageAddr_eq, BitVec.toNat_add]
    have hp' : zeroPageAddr (zp + s.x + 1) = BitVec.ofNat 16 ((zp.toNat + s.x.toNat + 1) % 256) := by
      rw [zeroPageAddr_eq]; bv_omega
    rw [← word_eq_ofNat]
    exact State.readPair_of (hp ▸ hlo) (hp' ▸ hhi)
  · have hp' : zeroPageAddr (zp + 1) = BitVec.ofNat 16 ((zp.toNat + 1) % 256) := by
      rw [zeroPageAddr_eq, BitVec.toNat_add]; rfl
    have hptr : zeroPagePointer zp s = some (word hi lo, u) :=
      State.readPair_of (zeroPageAddr_eq zp ▸ hlo) (hp' ▸ hhi)
    rw [← word_toNat, ← add_index_eq, effectiveAddress, hptr]
    rfl

/-! ### Loads and stores -/

theorem exec_of_sourceValue {i : Instr} {src : Source} {f : Byte → State → State} {s t : State} {v : Byte}
    (hf : readEffect i.mnemonic = some f) (ho : i.operand = src.operand) (hv : sourceValue src s = some (v, t)) :
    exec i s = .next (f v t) :=
  (exec_eq_withSource hf ho).trans (withSource_of f hv)

/-- Settles O34: each load is a read instruction that writes its register, N and Z. -/
theorem loadsWriteTheirRegister : Obligations.LoadsWriteTheirRegister := by
  refine ⟨fun _ _ => rfl, fun m s t a ha => ?_, fun i src s t v ho hv => ⟨fun hm => ?_, fun hm => ?_, fun hm => ?_⟩⟩
  · rw [sourceValue, ha, Option.bind_some]
  all_goals exact exec_of_sourceValue (by rw [hm]; rfl) ho hv

theorem storedReg_of_reads {mn : Mnemonic} {reg : State → Byte} {n : Nat} {s t : State} (hreg : storedReg mn = some reg)
    (h : Reads n s t) : reg t = reg s := by
  obtain ⟨k, d, rfl, -⟩ := h
  cases mn <;> cases hreg
  all_goals rfl

theorem exec_of_storedReg {i : Instr} {m : MemOperand} {reg : State → Byte} {s t : State} {a : Addr}
    (hreg : storedReg i.mnemonic = some reg) (ho : i.operand = .memory m) (ha : effectiveAddress m s = some (a, t)) :
    exec i s = .next (t.write a (reg s)) := by
  rw [exec_eq_storeReg hreg ho, ← storedReg_of_reads hreg (effectiveAddress_reads ha)]
  exact storeReg_next.mpr ⟨a, t, ha, rfl⟩

/-- Settles O35: each store is one write of its register, which resolving the address leaves as it was. -/
theorem storesWriteTheirRegister : Obligations.StoresWriteTheirRegister := by
  refine fun i m s t a ho ha => ⟨fun hm => ?_, fun hm => ?_, fun hm => ?_⟩
  all_goals exact exec_of_storedReg (by rw [hm]; rfl) ho ha

/-! ### Increment, decrement, shift -/

theorem exec_of_rmwEffect_accumulator {i : Instr} {f : Byte → Bool → Byte × (State → State)}
    (hf : rmwEffect i.mnemonic = some f) (ho : i.operand = .accumulator) (s : State) :
    exec i s = .next ((f s.a s.flagC).2 (s.setA (f s.a s.flagC).1)) :=
  exec_eq_modify (tgt := .accumulator) hf ho

theorem exec_of_rmwEffect_memory {i : Instr} {md : MemOperand} {f : Byte → Bool → Byte × (State → State)}
    {s t u : State} {a : Addr} {v : Byte} (hf : rmwEffect i.mnemonic = some f) (ho : i.operand = .memory md)
    (ha : effectiveAddress md s = some (a, t)) (hv : t.read a = some (v, u)) :
    exec i s = .next ((f v s.flagC).2 (u.write a (f v s.flagC).1)) := by
  have hcarry : u.flagC = s.flagC :=
    ((effectiveAddress_reads ha).trans (State.read_reads hv)).changes .flagC List.not_mem_nil
  rw [exec_eq_modify (tgt := .memory md) hf ho, ← hcarry]
  exact modify_memory.mpr ⟨a, t, v, u, ha, hv, rfl⟩

theorem rmwEffect_of_stepped {mn : Mnemonic} {v r : Byte} (h : stepped mn v = some r) :
    ∃ f, rmwEffect mn = some f ∧ ∀ c, f v c = (r, State.setNZ r) := by
  cases mn <;> cases h
  case inc => exact ⟨_, rfl, fun _ => by rw [byte_succ_eq]⟩
  case dec => exact ⟨_, rfl, fun _ => by rw [byte_pred_eq]⟩

/-- Settles O45: each reads its byte once and writes it once, with the result as a byte. -/
theorem incAndDecModifyTheirByte : Obligations.IncAndDecModifyTheirByte := by
  intro i md s t u a v r ho ha hv hr
  obtain ⟨f, hf, hfv⟩ := rmwEffect_of_stepped hr
  rw [exec_of_rmwEffect_memory hf ho ha hv, hfv]
  rfl

/-! The bits a shift moves, in numbers (rules R216 to R219). -/

theorem getLsbD_seven_eq (v : Byte) : v.getLsbD 7 = decide (128 ≤ v.toNat) :=
  BitVec.msb_eq_decide v

theorem getLsbD_zero_eq (v : Byte) : v.getLsbD 0 = decide (v.toNat % 2 = 1) := by
  simp [BitVec.getLsbD, Nat.testBit_zero]

theorem shiftLeft_one_eq (v : Byte) : v <<< 1 = BitVec.ofNat 8 (2 * v.toNat) := by bv_omega

theorem shiftRight_one_eq (v : Byte) : v >>> 1 = BitVec.ofNat 8 (v.toNat / 2) := by bv_omega

theorem shiftLeft_and_bitZero (v : Byte) (c : Bool) : (v <<< 1) &&& bitZero c = 0#8 := by
  ext k hk
  cases c <;> cases k <;> simp [bitZero]

theorem shiftRight_and_bitSeven (v : Byte) (c : Bool) : (v >>> 1) &&& bitSeven c = 0#8 := by
  ext k hk
  cases c
  · simp [bitSeven]
  · interval_cases k <;> simp [bitSeven]

/-- The bit a shift has emptied is filled by an addition. -/
theorem shiftLeft_or_bitZero (v : Byte) (c : Bool) :
    (v <<< 1) ||| bitZero c = BitVec.ofNat 8 (2 * v.toNat + c.toNat) := by
  rw [← BitVec.add_eq_or_of_and_eq_zero _ _ (shiftLeft_and_bitZero v c), shiftLeft_one_eq, BitVec.ofNat_add]
  cases c <;> rfl

theorem shiftRight_or_bitSeven (v : Byte) (c : Bool) :
    (v >>> 1) ||| bitSeven c = BitVec.ofNat 8 (v.toNat / 2 + 128 * c.toNat) := by
  rw [← BitVec.add_eq_or_of_and_eq_zero _ _ (shiftRight_and_bitSeven v c), shiftRight_one_eq, BitVec.ofNat_add]
  cases c <;> rfl

theorem rmwEffect_of_shifted {mn : Mnemonic} {v r : Byte} {cin c : Bool} (h : shifted mn v cin = some (r, c)) :
    ∃ f, rmwEffect mn = some f ∧ f v cin = (r, shiftFlags r c) := by
  cases mn <;> cases h
  case asl => exact ⟨_, rfl, by rw [shiftLeft_one_eq, getLsbD_seven_eq]⟩
  case lsr => exact ⟨_, rfl, by rw [shiftRight_one_eq, getLsbD_zero_eq]⟩
  case rol => exact ⟨_, rfl, by rw [shiftLeft_or_bitZero, getLsbD_seven_eq]⟩
  case ror => exact ⟨_, rfl, by rw [shiftRight_or_bitSeven, getLsbD_zero_eq]⟩

/-- Settles O47: of A or of a byte read once and written once, each shift moves its bits as numbers say. -/
theorem shiftsMoveOneBitThroughCarry : Obligations.ShiftsMoveOneBitThroughCarry := by
  refine fun i s => ⟨fun r c ho hr => ?_, fun md t u a v r c ho ha hv hr => ?_⟩
  · obtain ⟨f, hf, hfv⟩ := rmwEffect_of_shifted hr
    rw [exec_of_rmwEffect_accumulator hf ho, hfv]
    rfl
  · obtain ⟨f, hf, hfv⟩ := rmwEffect_of_shifted hr
    rw [exec_of_rmwEffect_memory hf ho ha hv, hfv]
    rfl

/-! ### Jumps and branches -/

theorem word_hiByte_loByte_eq_or (p q : Addr) : word (hiByte p) (loByte q) = (p &&& 0xFF00) ||| (q &&& 0x00FF) := by
  ext k hk
  unfold word
  rw [BitVec.getElem_append]
  interval_cases k <;> simp [hiByte, loByte]

/-- Under PageWrap the high byte is read at the next address with the pointer's page kept (rule R133). -/
theorem jumpHighAddr_pageWrap (ptr : Addr) :
    jumpHighAddr .pageWrap ptr = (ptr &&& 0xFF00) ||| ((ptr + 1) &&& 0x00FF) := by
  rw [← word_hiByte_loByte_eq_or]
  apply BitVec.eq_of_toNat_eq
  have hlo := loByte_toNat ptr
  have hlo' := loByte_toNat (ptr + 1)
  have hhi := hiByte_toNat ptr
  unfold jumpHighAddr
  split
  · rw [word_toNat, word_toNat]
    bv_omega
  · rw [word_toNat]
    bv_omega

theorem jumpHighAddr_linear (ptr : Addr) : jumpHighAddr .linear ptr = ptr + 1 := ite_self _

/-- Settles O48: the pointer is a pair read at `ptr` and where JMP_IND_WRAP says. -/
theorem jumpsSetThePc : Obligations.JumpsSetThePc := by
  refine ⟨fun _ _ => rfl, fun s t u ptr lo hi hlo hhi => ?_⟩
  have htarget : indirectTarget ptr s = some (word hi lo, u) := by
    refine State.readPair_of hlo ?_
    cases hwrap : s.jmpIndWrap with
    | pageWrap => rwa [hwrap, ← jumpHighAddr_pageWrap] at hhi
    | linear => rwa [hwrap, ← jumpHighAddr_linear] at hhi
  change execJmpInd ptr s = _
  rw [execJmpInd, htarget, word_eq_ofNat]
  rfl

/-- The signed displacement counts from the next instruction, modulo 65536 (rule R137). -/
theorem branchTarget_toNat (disp : Byte) (s : State) :
    ((branchTarget disp s).toNat : Int) = ((s.pc.toNat : Int) + disp.toInt) % 65536 := by
  rw [branchTarget, BitVec.toNat_add, BitVec.signExtend, BitVec.toNat_ofInt]
  omega

/-- Settles O52: each branch tests its condition, and a branch that is taken writes PC alone. -/
theorem branchesTestOneFlag : Obligations.BranchesTestOneFlag := by
  intro i disp s cond ho hc
  refine ⟨branchTarget disp s, branchTarget_toNat disp s, ?_⟩
  rw [exec_eq_branchIf hc ho]
  cases cond <;> rfl

/-! ### Frames -/

/-- Settles O9: every meaning is a completion, and a completion is not a refusal. -/
theorem stepAlwaysAnswersAState : Obligations.StepAlwaysAnswersAState := by
  refine ⟨step_answers, fun i s r => ?_⟩
  obtain ⟨o, ho⟩ := exec_eq_complete i s
  rw [ho]
  exact complete_ne_refused o r

theorem eq_brk_of_mnemonic {i : Instr} (h : i.mnemonic = .brk) : i = .brk := by
  cases i <;> cases h
  rfl

/-- Settles O28, from the frame of `exec`. -/
theorem onlyControlInstructionsWritePcOrEngine : Obligations.OnlyControlInstructionsWritePcOrEngine := fun _ _ _ h =>
  ⟨exec_changes h .pc, fun hi => exec_changes h .engine (beq_false_of_ne (mt eq_brk_of_mnemonic hi))⟩

/-- Settles O29, from the frame of `exec`. -/
theorem otherInstructionsLeaveMemory : Obligations.OtherInstructionsLeaveMemory := fun _ _ _ h hstore hpush =>
  ⟨State.byteAt_congr (exec_changes h .mem (Bool.or_eq_false_iff.mpr ⟨hstore, hpush⟩)), exec_changes h .output hstore⟩

/-- The instructions that write their effective address are the stores and the shift and RMW instructions. -/
theorem effect_of_storesToOperand {i : Instr} (h : storesToOperand i = true) :
    (∃ reg, storedReg i.mnemonic = some reg) ∨ ∃ f, rmwEffect i.mnemonic = some f := by
  cases i <;> cases h
  case staZp | staZpX | staAbs | staAbsX | staAbsY | staIndX | staIndY | stxZp | stxZpY | stxAbs | styZp | styZpX
    | styAbs => exact .inl ⟨_, rfl⟩
  all_goals exact .inr ⟨_, rfl⟩

theorem rmwEffect_changes {mn : Mnemonic} {f : Byte → Bool → Byte × (State → State)} (hf : rmwEffect mn = some f)
    (v : Byte) (c : Bool) (s : State) : ChangesOnly [.flagC, .flagN, .flagZ] s ((f v c).2 s) := by
  cases mn <;> cases hf
  case inc | dec => exact (State.setNZ_changes _ s).mono (by simp)
  all_goals exact shiftFlags_changes _ _ s

theorem byteAt_write_reads {n : Nat} {s t : State} (h : Reads n s t) {a b : Addr} (v : Byte) (hb : b ≠ a) :
    (t.write a v).byteAt b = s.byteAt b :=
  (State.byteAt_write_other t a b v hb).trans (State.byteAt_congr (h.changes .mem List.not_mem_nil) b)

/-- Settles O30: a store or RMW instruction writes once, at its effective address; its reads and flags leave `Store`. -/
theorem storesChangeOnlyTheirByte : Obligations.StoresChangeOnlyTheirByte := by
  intro i m s t u a h hstore ho ha b hb
  obtain ⟨reg, hreg⟩ | ⟨f, hf⟩ := effect_of_storesToOperand hstore
  · rw [exec_of_storedReg hreg ho ha] at h
    cases h
    exact byteAt_write_reads (effectiveAddress_reads ha) _ hb
  · rw [exec_eq_modify (tgt := .memory m) hf ho] at h
    obtain ⟨a', t', v, w, ha', hv, rfl⟩ := modify_memory.mp h
    obtain ⟨rfl, rfl⟩ := Prod.mk.inj (Option.some.inj (ha.symm.trans ha'))
    exact (State.byteAt_congr (rmwEffect_changes hf v _ _ .mem (by simp)) b).trans
      (byteAt_write_reads ((effectiveAddress_reads ha).trans (State.read_reads hv)) _ hb)

end Sys2Proof.Machine

/-! SUPPORT. The register transfers. -/

namespace Sys2Proof.Machine

/-- Settles O36: each transfer is one register update, followed by `setNZ` of the copied byte for all but TXS; both are
record updates, so every field not named is the old one, and each encodes to its opcode alone. -/
theorem transfersCopyARegister : Obligations.TransfersCopyARegister := by
  intro s
  refine ⟨⟨rfl, ?tax⟩, ⟨rfl, ?tay⟩, ⟨rfl, ?tsx⟩, ⟨rfl, ?txa⟩, ⟨rfl, ?txs⟩, ⟨rfl, ?tya⟩⟩
  case tax => exact congrArg Host.Outcome.next (rfl : (s.setX s.a).setNZ s.a = _)
  case tay => exact congrArg Host.Outcome.next (rfl : (s.setY s.a).setNZ s.a = _)
  case tsx => exact congrArg Host.Outcome.next (rfl : (s.setX s.sp).setNZ s.sp = _)
  case txa => exact congrArg Host.Outcome.next (rfl : (s.setA s.x).setNZ s.x = _)
  case txs => exact congrArg Host.Outcome.next (rfl : s.setSP s.x = _)
  case tya => exact congrArg Host.Outcome.next (rfl : (s.setA s.y).setNZ s.y = _)

end Sys2Proof.Machine

/-! SUPPORT. Arithmetic, logic and compare: sums, differences, overflow and decimal digits in numbers. -/

namespace Sys2Proof.Machine

open Sys2Proof.Claims

/-! ### ADC and SBC: the operand read leaves A, C and the decimal mode -/

theorem exec_adc {i : Instr} {src : Source} {s t : State} {m : Byte} (hm : i.mnemonic = .adc)
    (ho : i.operand = src.operand) (hv : sourceValue src s = some (m, t)) :
    exec i s = .next (t.setArith (if s.decimal then adcBcd s.a m s.flagC else addBin s.a m s.flagC)) := by
  rw [exec_of_sourceValue (f := State.addToA) (by rw [hm]; rfl) ho hv]
  obtain ⟨k, d, rfl, -⟩ := sourceValue_reads hv
  rfl

theorem exec_sbc {i : Instr} {src : Source} {s t : State} {m : Byte} (hm : i.mnemonic = .sbc)
    (ho : i.operand = src.operand) (hv : sourceValue src s = some (m, t)) :
    exec i s = .next (t.setArith (if s.decimal then sbcBcd s.a m s.flagC else subBin s.a m s.flagC)) := by
  rw [exec_of_sourceValue (f := State.subFromA) (by rw [hm]; rfl) ho hv]
  obtain ⟨k, d, rfl, -⟩ := sourceValue_reads hv
  rfl

theorem State.decimal_eq_true {s : State} (hd : s.flagD = true) (hmode : s.decimalMode = .nmosBcd) :
    s.decimal = true := by
  rw [State.decimal, hd, hmode]
  rfl

theorem State.decimal_eq_false {s : State} (h : s.flagD = false ∨ s.decimalMode = .binary) : s.decimal = false := by
  obtain hd | hmode := h
  · rw [State.decimal, hd, Bool.false_and]
  · rw [State.decimal, hmode]
    exact Bool.and_false _

/-! ### Binary sums and differences -/

theorem ofNat_beq_zero (n : Nat) : (BitVec.ofNat 8 n == 0) = decide (n % 256 = 0) := by
  rw [beq_eq_decide, decide_eq_decide, ← BitVec.toNat_inj, BitVec.toNat_ofNat]
  rfl

theorem and_bitSeven_bne_zero (v : Byte) : ((v &&& 0x80) != 0) = v.msb := by
  change ((v &&& BitVec.twoPow 8 7) != 0) = v.getLsbD 7
  rw [BitVec.and_twoPow]
  cases v.getLsbD 7 <;> rfl

/-- V of rule R190 is set when the signs of both operands differ from the result's, that is when the signed sum is out
of range. -/
theorem addBin_v (a m : Byte) (c : Bool) : (addBin a m c).v = signedOverflow a m c := by
  change ((_ &&& 0x80) != 0) = _
  rw [and_bitSeven_bne_zero, signedOverflow, BitVec.msb_and, BitVec.msb_xor, BitVec.msb_xor,
    Bool.eq_iff_iff]
  simp only [BitVec.msb_eq_decide, BitVec.toNat_ofNat, BitVec.toInt_eq_toNat_cond, Bool.and_eq_true, bne_iff_ne, ne_eq,
    decide_eq_decide, decide_eq_true_eq]
  have ha := a.isLt
  have hm := m.isLt
  have hc := c.toNat_lt
  omega

theorem addBin_n (a m : Byte) (c : Bool) :
    (addBin a m c).n = decide (128 ≤ (a.toNat + m.toNat + c.toNat) % 256) := by
  change (BitVec.ofNat 8 _).getLsbD 7 = _
  rw [getLsbD_seven_eq, BitVec.toNat_ofNat]

theorem addBin_z (a m : Byte) (c : Bool) : (addBin a m c).z = decide ((a.toNat + m.toNat + c.toNat) % 256 = 0) :=
  ofNat_beq_zero _

theorem toInt_complement (m : Byte) : (~~~m).toInt = -m.toInt - 1 := by
  have hm := m.isLt
  rw [BitVec.toInt_eq_toNat_cond, BitVec.toInt_eq_toNat_cond, BitVec.toNat_not]
  omega

theorem subBin_value (a m : Byte) (c : Bool) :
    (subBin a m c).value = BitVec.ofInt 8 ((a.toNat : Int) - m.toNat - (1 - c.toNat)) := by
  change BitVec.ofNat 8 _ = _
  apply BitVec.eq_of_toNat_eq
  rw [BitVec.toNat_ofNat, BitVec.toNat_ofInt, BitVec.toNat_not]
  omega

theorem subBin_c (a m : Byte) (c : Bool) :
    (subBin a m c).c = decide ((m.toNat : Int) + (1 - c.toNat) ≤ a.toNat) := by
  change decide (_ > 255) = _
  rw [decide_eq_decide, BitVec.toNat_not]
  omega

theorem subBin_v (a m : Byte) (c : Bool) :
    (subBin a m c).v = decide (a.toInt - m.toInt - (1 - c.toNat) < -128 ∨ 127 < a.toInt - m.toInt - (1 - c.toNat)) := by
  rw [subBin, addBin_v, signedOverflow, toInt_complement, decide_eq_decide]
  omega

/-- Settles O39: A and the flags are those of `adcBcd` or of `addBin`, whose flags are put in numbers. -/
theorem adcAddsWithCarry : Obligations.AdcAddsWithCarry := by
  intro i src s t m hm ho hv
  rw [exec_adc hm ho hv]
  refine ⟨fun hbin => ?_, fun hd hmode => ?_⟩
  · rw [State.decimal_eq_false hbin, ← addBin_v, ← addBin_n, ← addBin_z]
    rfl
  · rw [State.decimal_eq_true hd hmode]
    rfl

/-- Settles O40: A and the flags are those of `sbcBcd` or of `subBin`, the sum with the complement of the operand. -/
theorem sbcSubtractsWithBorrow : Obligations.SbcSubtractsWithBorrow := by
  intro i src s t m hm ho hv
  rw [exec_sbc hm ho hv]
  refine ⟨fun hbin => ?_, fun hd hmode => ?_⟩
  · rw [State.decimal_eq_false hbin, ← subBin_value, ← subBin_c, ← subBin_v]
    rfl
  · rw [State.decimal_eq_true hd hmode]
    rfl

/-! ### Decimal sums and differences -/

theorem toNat_lowDigit (v : Byte) : (v &&& 0x0F).toNat = v.toNat % 16 :=
  (BitVec.toNat_and ..).trans (Nat.and_two_pow_sub_one_eq_mod v.toNat 4)

theorem toNat_highDigit (v : Byte) : (v &&& 0xF0).toNat = v.toNat / 16 * 16 := by
  have h : v &&& (0xF0 : Byte) = v >>> 4 <<< 4 := (BitVec.shiftLeft_ushiftRight (x := v) (n := 4)).symm
  rw [h]
  bv_omega

theorem toInt_highDigit (v : Byte) :
    (v &&& 0xF0).toInt = (if v.toNat < 128 then 0 else -256) + (v.toNat / 16 * 16 : Nat) := by
  rw [BitVec.toInt_eq_toNat_cond, toNat_highDigit]
  omega

/-- Settles O41: the masks of the two algorithms take the digits of the operands. -/
theorem decimalAlgorithmsOfTheSpec : Obligations.DecimalAlgorithmsOfTheSpec := by
  intro a m c
  constructor
  · simp only [adcBcd, bcdAddLow, toNat_lowDigit, toNat_highDigit, toInt_highDigit, ofNat_beq_zero,
      Nat.testBit_eq_decide_div_mod_eq, ← Bool.decide_or, ArithResult.mk.injEq, and_true, true_and,
      ge_iff_le, decide_eq_decide]
    omega
  · simp only [sbcBcd, bcdSubLow, toNat_lowDigit, toNat_highDigit]

theorem toNat_bcd {n : Nat} (h : n < 100) : (bcd n).toNat = 16 * (n / 10) + n % 10 := by
  rw [bcd, BitVec.toNat_ofNat]
  omega

theorem toNat_bcd_mod {n : Nat} (h : n < 100) : (bcd n).toNat % 16 = n % 10 := by
  rw [toNat_bcd h]
  omega

theorem toNat_bcd_div {n : Nat} (h : n < 100) : (bcd n).toNat / 16 = n / 10 := by
  rw [toNat_bcd h]
  omega

/-! On decimal digits each adjustment adds the 6 codes a digit skips for a carry out of it, and takes them off for a
borrow. -/

theorem adjustLow_add {n : Nat} (h : n < 20) : (if 10 ≤ n then (n + 6) % 16 + 16 else n) = n + 6 * (n / 10) := by
  split <;> omega

theorem adjustHigh_add {n : Nat} (h : n < 320) : (if 160 ≤ n then n + 96 else n) = n + 96 * (n / 160) := by
  split <;> omega

theorem adjustLow_sub {n : Int} (h : -10 ≤ n ∧ n < 10) :
    (if n < 0 then (n - 6) % 16 - 16 else n) = n + 6 * (n / 10) := by
  split <;> omega

theorem adjustHigh_sub {n : Int} (h : -160 ≤ n ∧ n < 160) : (if n < 0 then n - 96 else n) = n + 96 * (n / 160) := by
  split <;> omega

/-- With the low digit adjusted, the sum of the digits is the sum itself in tens and ones. -/
theorem digits_add (x y k : Nat) :
    x / 10 * 16 + y / 10 * 16 + (x % 10 + y % 10 + k + 6 * ((x % 10 + y % 10 + k) / 10)) =
      16 * ((x + y + k) / 10) + (x + y + k) % 10 := by
  omega

theorem digits_sub (x y : Nat) (k : Int) :
    ((x / 10 * 16 : Nat) : Int) - (y / 10 * 16 : Nat) +
        ((x % 10 : Nat) - (y % 10 : Nat) + k - 1 + 6 * (((x % 10 : Nat) - (y % 10 : Nat) + k - 1) / 10)) =
      16 * ((x - y + k - 1) / 10) + (x - y + k - 1) % 10 := by
  omega

/-- Settles O42: adjusted, the digits of a sum or difference n are 16 * (n / 10) + n % 10, with 96 more for its hundred
carried or borrowed. -/
theorem decimalArithmeticIsDecimal : Obligations.DecimalArithmeticIsDecimal := by
  intro x y c hx hy
  have hc := c.toNat_lt
  obtain ⟨hadc, hsbc⟩ := decimalAlgorithmsOfTheSpec (bcd x) (bcd y) c
  dsimp only at hadc hsbc
  rw [toNat_bcd_mod hx, toNat_bcd_mod hy, toNat_bcd_div hx, toNat_bcd_div hy] at hadc hsbc
  rw [adjustLow_add (by omega), digits_add, adjustHigh_add (by omega)] at hadc
  rw [adjustLow_sub (by omega), digits_sub, adjustHigh_sub (by omega)] at hsbc
  rw [hadc, hsbc]
  refine ⟨?adcValue, ?adcCarry, ?sbcValue, ?sbcCarry⟩
  case adcValue =>
    apply BitVec.eq_of_toNat_eq
    rw [toNat_bcd (Nat.mod_lt _ (by decide)), BitVec.toNat_ofNat]
    omega
  case adcCarry =>
    rw [decide_eq_decide]
    omega
  case sbcValue =>
    apply BitVec.eq_of_toNat_eq
    rw [toNat_bcd (Nat.mod_lt _ (by decide)), BitVec.toNat_ofInt]
    omega
  case sbcCarry =>
    rw [subBin_c, decide_eq_decide, toNat_bcd hx, toNat_bcd hy]
    omega

/-! ### Logic and comparison -/

/-- Settles O43: each is a read instruction that writes A, N and Z, or the flags of BIT. -/
theorem logicAndBitResults : Obligations.LogicAndBitResults := by
  intro i src s t m ho hv
  obtain ⟨k, d, rfl, -⟩ := sourceValue_reads hv
  refine ⟨fun hm => ?_, fun hm => ?_, fun hm => ?_, fun hm => ?_⟩
  all_goals exact exec_of_sourceValue (by rw [hm]; rfl) ho hv

theorem State.compare_eq (s : State) (r m : Byte) :
    s.compare r m = { s with
      flagC := decide (m.toNat ≤ r.toNat)
      flagZ := decide (r = m)
      flagN := decide (128 ≤ (r.toNat + 256 - m.toNat) % 256) } := by
  have h : (r - m).toNat = (r.toNat + 256 - m.toNat) % 256 := by bv_omega
  rw [State.compare, getLsbD_seven_eq, h]
  rfl

/-- Settles O44: each is a read instruction that compares its register, which the operand read leaves. -/
theorem comparesWriteThreeFlags : Obligations.ComparesWriteThreeFlags := by
  intro i src s t m ho hv r hr
  rw [← State.compare_eq]
  obtain ⟨k, d, rfl, -⟩ := sourceValue_reads hv
  obtain ⟨hm, rfl⟩ | ⟨hm, rfl⟩ | ⟨hm, rfl⟩ := hr
  · exact exec_of_sourceValue (f := fun m t => t.compare t.a m) (by rw [hm]; rfl) ho hv
  · exact exec_of_sourceValue (f := fun m t => t.compare t.x m) (by rw [hm]; rfl) ho hv
  · exact exec_of_sourceValue (f := fun m t => t.compare t.y m) (by rw [hm]; rfl) ho hv

end Sys2Proof.Machine

/-! SUPPORT. RTS after JSR: the two bytes pushed are the two bytes pulled. -/

namespace Sys2Proof.Machine

open Sys2Proof.Claims

/-! ### What RTS pulls from a stack that is not IO -/

/-- A pull outside IO answers the byte in `Store` and only moves SP (rules R31, R55, R57). -/
theorem State.pull_store {s : State} (h : s.policy (stackAddr (s.sp + 1)) ≠ .io) :
    s.pull = some (s.byteAt (stackAddr (s.sp + 1)), s.setSP (s.sp + 1)) :=
  State.read_store (s := s.setSP (s.sp + 1)) h

theorem exec_rts_store {s : State} (hlo : s.policy (stackAddr (s.sp + 1)) ≠ .io)
    (hhi : s.policy (stackAddr (s.sp + 1 + 1)) ≠ .io) :
    exec .rts s = .next ((s.setSP (s.sp + 1 + 1)).setPC
      (word (s.byteAt (stackAddr (s.sp + 1 + 1))) (s.byteAt (stackAddr (s.sp + 1))) + 1)) :=
  exec_rts_of_pulls (State.pull_store hlo) (State.pull_store (s := s.setSP (s.sp + 1)) hhi)

/-! ### What two pushes leave in a stack that is RAM -/

@[simp] theorem State.push_policy (s : State) (v : Byte) (a : Addr) : (s.push v).policy a = s.policy a :=
  State.policy_congr (State.push_regions v s) a

theorem State.byteAt_push_ram (s : State) (v : Byte) (h : s.policy (stackAddr s.sp) = .ram) :
    (s.push v).byteAt (stackAddr s.sp) = v :=
  State.byteAt_write_ram s _ v h

/-- The second push goes to another address, also where SP wraps, and leaves the byte of the first. -/
theorem State.byteAt_push_push_first (s : State) (v w : Byte) (h : s.policy (stackAddr s.sp) = .ram) :
    ((s.push v).push w).byteAt (stackAddr s.sp) = v := by
  have hne : stackAddr s.sp ≠ stackAddr (s.sp - 1) := fun he => by
    have hsp := stackAddr_injective he
    bv_omega
  exact (State.byteAt_push_other _ w _ hne).trans (State.byteAt_push_ram s v h)

theorem State.byteAt_push_push_second (s : State) (v w : Byte) (h : s.policy (stackAddr (s.sp - 1)) = .ram) :
    ((s.push v).push w).byteAt (stackAddr (s.sp - 1)) = w :=
  State.byteAt_push_ram (s.push v) w ((s.push_policy v _).trans h)

/-- RTS after two pushes, from whatever PC: it continues after the address that was pushed, with SP as before. -/
theorem exec_rts_push_push (s : State) (hi lo : Byte) (p : Addr) (hhi : s.policy (stackAddr s.sp) = .ram)
    (hlo : s.policy (stackAddr (s.sp - 1)) = .ram) :
    exec .rts (((s.push hi).push lo).setPC p) =
      .next ((((s.push hi).push lo).setSP s.sp).setPC (word hi lo + 1)) := by
  have hpolicy (a : Addr) : (((s.push hi).push lo).setPC p).policy a = s.policy a :=
    (State.push_policy _ lo a).trans (s.push_policy hi a)
  have hsp1 : (((s.push hi).push lo).setPC p).sp + 1 = s.sp - 1 := BitVec.sub_add_cancel (s.sp - 1) 1
  have hsp2 : (((s.push hi).push lo).setPC p).sp + 1 + 1 = s.sp := by rw [hsp1]; exact BitVec.sub_add_cancel s.sp 1
  have hbyteHi : (((s.push hi).push lo).setPC p).byteAt (stackAddr s.sp) = hi := s.byteAt_push_push_first hi lo hhi
  have hbyteLo : (((s.push hi).push lo).setPC p).byteAt (stackAddr (s.sp - 1)) = lo :=
    s.byteAt_push_push_second hi lo hlo
  rw [exec_rts_store (by rw [hsp1, hpolicy, hlo]; decide) (by rw [hsp2, hpolicy, hhi]; decide), hsp2, hsp1, hbyteHi,
    hbyteLo]
  rfl

/-- Settles O51: RTS pulls the two bytes JSR pushed, of the address before the one it returns to. -/
theorem rtsReturnsToTheJsr : Obligations.RtsReturnsToTheJsr := by
  intro s t addr p hhi hlo h
  have hpc : word (hiByte (s.pc - 1)) (loByte (s.pc - 1)) + 1 = s.pc := by
    rw [word_hiByte_loByte]; exact BitVec.sub_add_cancel s.pc 1
  cases h
  refine (exec_rts_push_push s _ _ p hhi hlo).trans ?_
  rw [hpc]
  rfl

end Sys2Proof.Machine

/-! SUPPORT. The flag instructions, NOP and BRK. -/

namespace Sys2Proof.Machine

open Sys2Proof.Claims

/-- Settles O53: a flag instruction is one flag update, a record update that leaves every field not named as it was; NOP
answers the state itself; each encodes to its opcode alone. -/
theorem flagInstructionsAndNop : Obligations.FlagInstructionsAndNop := by
  intro s
  refine ⟨⟨rfl, ?clc⟩, ⟨rfl, ?cld⟩, ⟨rfl, ?cli⟩, ⟨rfl, ?clv⟩, ⟨rfl, ?sec⟩, ⟨rfl, ?sed⟩, ⟨rfl, ?sei⟩, ⟨rfl, rfl⟩⟩
  case clc => exact congrArg Host.Outcome.next (rfl : s.setC false = _)
  case cld => exact congrArg Host.Outcome.next (rfl : s.setD false = _)
  case cli => exact congrArg Host.Outcome.next (rfl : s.setI false = _)
  case clv => exact congrArg Host.Outcome.next (rfl : s.setV false = _)
  case sec => exact congrArg Host.Outcome.next (rfl : s.setC true = _)
  case sed => exact congrArg Host.Outcome.next (rfl : s.setD true = _)
  case sei => exact congrArg Host.Outcome.next (rfl : s.setI true = _)

/-- BRK's execute phase is the halt alone (rule R258). -/
theorem exec_brk (s : State) : exec .brk s = .next s.halt := rfl

/-- An instruction without operand bytes is at PC where its opcode is. -/
theorem bytesAtPC_singleton {s : State} {b : Byte} (hp : s.policy s.pc ≠ .io) (hb : s.byteAt s.pc = b) :
    BytesAtPC [b] s := by
  intro k hk
  obtain rfl : k = 0 := Nat.lt_one_iff.mp hk
  simpa using ⟨hp, hb⟩

/-- Settles O54: the $00 byte is all of BRK's encoding, so the step is its execute phase with PC past that byte. -/
theorem brkHaltsTheEngine : Obligations.BrkHaltsTheEngine := by
  refine ⟨exec_brk, fun s hs hp hb => ?_⟩
  have hbrk : BytesAtPC (encode .brk) s := bytesAtPC_singleton hp hb
  rw [step_of_bytes hs (fetchBytes_of_bytesAtPC hbrk), exec_brk, settle_next]
  rfl

end Sys2Proof.Machine

/-! SUPPORT. The assembler's pass 2: what each operand's bytes are, that there are as many as pass 1 counts, and that an
instruction's bytes are the encoding of the instruction written. -/

namespace Sys2Proof.Machine

/-! ### The bytes of a value -/

section

variable {bs : List Byte} {addr v : Nat}

theorem eq_singleton_of_byteOf (h : byteOf v = .ok bs) : v ≤ 255 ∧ bs = [BitVec.ofNat 8 v] := by
  unfold byteOf at h
  split at h <;> cases h
  next hle => exact ⟨not_lt.mp hle, rfl⟩

theorem wordOf_eq (v : Nat) : wordOf v = [BitVec.ofNat 8 (v % 256), BitVec.ofNat 8 (v / 256)] :=
  congrArg (· :: _) (BitVec.eq_of_toNat_eq (by simp))

/-- Rule R288: the offset is counted in the integers from the next instruction. -/
theorem branchByte_of_inRange (hlo : (-128 : Int) ≤ (v : Int) - (addr + 2)) (hhi : (v : Int) - (addr + 2) ≤ 127) :
    branchByte addr v = .ok [BitVec.ofInt 8 ((v : Int) - (addr + 2))] :=
  if_neg (by simp; omega)

theorem branchByte_of_outOfRange (h : (v : Int) - (addr + 2) < -128 ∨ 127 < (v : Int) - (addr + 2)) :
    branchByte addr v = .error .branchOutOfRangeError :=
  if_pos (by simpa using h)

/-- An offset in range is the signed value of its byte. -/
theorem toInt_ofInt_of_inRange {off : Int} (hlo : -128 ≤ off) (hhi : off ≤ 127) : (BitVec.ofInt 8 off).toInt = off :=
  BitVec.toInt_ofInt_eq_self (by decide) hlo (Int.lt_add_one_of_le hhi)

theorem eq_singleton_of_branchByte (h : branchByte addr v = .ok bs) :
    ∃ d : Byte, bs = [d] ∧ d.toInt = (v : Int) - (addr + 2) := by
  by_cases hout : (v : Int) - (addr + 2) < -128 ∨ 127 < (v : Int) - (addr + 2)
  · rw [branchByte_of_outOfRange hout] at h
    cases h
  · obtain ⟨hlo, hhi⟩ := not_or.mp hout
    rw [branchByte_of_inRange (not_lt.mp hlo) (not_lt.mp hhi)] at h
    cases h
    exact ⟨_, rfl, toInt_ofInt_of_inRange (not_lt.mp hlo) (not_lt.mp hhi)⟩

/-! ### The operand bytes of a mode (rule R286) -/

variable {md : Mode}

theorem operandBytes_of_noOperand (h : md.operandCount = 0) : operandBytes md addr v = .ok [] := by
  cases md <;> try cases h
  all_goals rfl

theorem operandBytes_of_byteOperand (h : md.operandCount = 1) (hrel : md ≠ .relative) :
    operandBytes md addr v = byteOf v := by
  cases md <;> try cases h
  case relative => exact absurd rfl hrel
  all_goals rfl

theorem operandBytes_of_wordOperand (h : md.operandCount = 2) : operandBytes md addr v = .ok (wordOf v) := by
  cases md <;> try cases h
  all_goals rfl

/-- Pass 1 counts an operand's bytes by its mode (rules R283, R289). -/
theorem length_of_operandBytes (h : operandBytes md addr v = .ok bs) : bs.length = md.operandCount := by
  cases md with
  | implied | accumulator => cases h; rfl
  | relative =>
    obtain ⟨d, rfl, -⟩ := eq_singleton_of_branchByte h
    rfl
  | immediate | zeroPage | zeroPageX | zeroPageY | indirectX | indirectY =>
    obtain ⟨-, rfl⟩ := eq_singleton_of_byteOf h
    rfl
  | absolute | absoluteX | absoluteY | indirect => cases h; rfl

end

/-! ### The bytes of an instruction -/

section

variable {sym : Symbols} {addr : Nat} {mn : Mnemonic} {md : Mode} {operand : Option Term} {bs : List Byte}

/-- With its opcode and its operand's value known, an instruction fails only as its operand does (rule R286). -/
theorem instrBytes_of_value {op : Byte} {v : Nat} (hop : opcodeOf mn md = some op)
    (hv : operandValue sym operand = .ok v) :
    instrBytes sym addr mn md operand = (operandBytes md addr v).map (op :: ·) := by
  simp only [instrBytes, hop, hv]
  cases operandBytes md addr v <;> rfl

/-- What is emitted for an instruction: its opcode, then the operand bytes of its term's value. -/
theorem eq_cons_of_instrBytes (h : instrBytes sym addr mn md operand = .ok bs) : ∃ op v operands,
    opcodeOf mn md = some op ∧ operandValue sym operand = .ok v ∧ operandBytes md addr v = .ok operands ∧
      bs = op :: operands := by
  match hop : opcodeOf mn md, hv : operandValue sym operand with
  | none, _ => simp [instrBytes, hop] at h
  | some op, .error k => simp [instrBytes, hop, hv] at h
  | some op, .ok v =>
    rw [instrBytes_of_value hop hv] at h
    match hb : operandBytes md addr v with
    | .error k => rw [hb] at h; cases h
    | .ok operands =>
      rw [hb] at h
      cases h
      exact ⟨op, v, operands, rfl, rfl, hb, rfl⟩

end

/-! ### Lengths -/

section

variable {sym : Symbols} {bs : List Byte}

theorem length_of_termsBytes {f : Nat → Except AsmErrorKind (List Byte)} {n : Nat}
    (hf : ∀ v bs, f v = .ok bs → bs.length = n) {terms : List Term} (h : termsBytes sym f terms = .ok bs) :
    bs.length = n * terms.length := by
  induction terms generalizing bs with
  | nil => cases h; rfl
  | cons t rest ih =>
    unfold termsBytes at h
    split at h <;> try cases h
    split at h <;> try cases h
    next b hb =>
    split at h <;> cases h
    next more hmore =>
    rw [List.length_append, hf _ _ hb, ih hmore, List.length_cons, Nat.mul_succ, Nat.add_comm]

/-- Rule R289 for one line: each kind of line emits as many bytes as it is counted for. -/
theorem length_of_bodyBytes {addr : Nat} {body : AsmBody} (h : bodyBytes sym addr body = .ok bs) :
    bs.length = bodyLength body := by
  cases body with
  | bytes terms =>
    refine (length_of_termsBytes (fun v b hb => ?_) h).trans (Nat.one_mul _)
    obtain ⟨-, rfl⟩ := eq_singleton_of_byteOf hb
    rfl
  | words terms =>
    refine length_of_termsBytes (fun v b hb => ?_) h
    cases hb
    rfl
  | instr mn md operand =>
    obtain ⟨op, v, operands, -, -, hoperands, rfl⟩ := eq_cons_of_instrBytes h
    rw [List.length_cons, length_of_operandBytes hoperands, Nat.add_comm]
    rfl

theorem length_of_passTwo {plan : List PlanItem} (h : passTwo sym plan = .ok bs) :
    bs.length = (plan.map fun item => bodyLength item.body).sum := by
  induction plan generalizing bs with
  | nil => cases h; rfl
  | cons item rest ih =>
    unfold passTwo at h
    split at h <;> try cases h
    next b hb =>
    split at h <;> cases h
    next more hmore =>
    rw [List.length_append, length_of_bodyBytes hb, ih hmore, List.map_cons, List.sum_cons]

end

/-- Settles O55, line by line and by induction on the plan. -/
theorem passLengthsAgree : Obligations.PassLengthsAgree :=
  ⟨fun _ _ _ _ => length_of_bodyBytes, fun _ _ _ => length_of_passTwo⟩

/-! ### The instruction emitted is the instruction written -/

/-- The rows of rule R96 stand in the order of their opcode bytes, so no byte has two descriptors. -/
theorem nodup_opcodes : (opcodeTable.map fun d => d.opcode.toNat).Nodup := by
  have hrising : (opcodeTable.map fun d => d.opcode.toNat).IsChain (· < ·) := by
    simp [opcodeTable, opcodeRows00, opcodeRows20, opcodeRows40, opcodeRows60, opcodeRows80, opcodeRowsA0, opcodeRowsC0,
      opcodeRowsE0]
  exact (List.isChain_iff_pairwise.mp hrising).imp Nat.ne_of_lt

theorem descriptor_of_mem_opcodeTable {d : Descriptor} (h : d ∈ opcodeTable) : descriptor d.opcode = some d := by
  obtain ⟨e, he⟩ : ∃ e, descriptor d.opcode = some e :=
    Option.isSome_iff_exists.mp (List.find?_isSome.mpr ⟨d, h, beq_self_eq_true _⟩)
  have hop : e.opcode = d.opcode := by simpa using List.find?_some he
  rw [he, List.inj_on_of_nodup_map nodup_opcodes (List.mem_of_find?_eq_some he) h (congrArg BitVec.toNat hop)]

theorem descriptor_of_opcodeOf {mn : Mnemonic} {md : Mode} {op : Byte} (h : opcodeOf mn md = some op) :
    ∃ d, descriptor op = some d ∧ d.mnemonic = mn ∧ d.mode = md := by
  obtain ⟨d, hd, rfl⟩ := Option.map_eq_some_iff.mp h
  have hpair : d.mnemonic = mn ∧ d.mode = md := by simpa using List.find?_some hd
  exact ⟨d, descriptor_of_mem_opcodeTable (List.mem_of_find?_eq_some hd), hpair⟩

theorem exists_append_eq_two {l : List Byte} (h : l.length ≤ 2) : ∃ b1 b2 more, [b1, b2] = l ++ more := by
  match l, h with
  | [], _ => exact ⟨0, 0, _, rfl⟩
  | [b1], _ => exact ⟨b1, 0, _, rfl⟩
  | [b1, b2], _ => exact ⟨b1, b2, _, rfl⟩

theorem operandCount_le_two (md : Mode) : md.operandCount ≤ 2 := by cases md <;> decide

/-- The opcode of a mnemonic in a mode and as many bytes as the mode has operand bytes are the encoding of an instruction:
the one the decoder reads there. -/
theorem exists_encode_of_opcodeOf {mn : Mnemonic} {md : Mode} {op : Byte} {operands : List Byte}
    (hop : opcodeOf mn md = some op) (hlen : operands.length = md.operandCount) :
    ∃ i : Instr, encode i = op :: operands ∧ i.mnemonic = mn ∧ i.mode = md := by
  obtain ⟨d, hd, rfl, rfl⟩ := descriptor_of_opcodeOf hop
  obtain ⟨b1, b2, more, hmore⟩ := exists_append_eq_two (hlen.trans_le (operandCount_le_two d.mode))
  obtain ⟨i, rest, hdec, -, hmn, hmd, hcount, -⟩ := (decoderFollowsTheDescriptorTable op b1 b2).1 d hd
  have hbytes : encode i ++ rest = (op :: operands) ++ more := by
    rw [← encode_of_decode hdec, hmore, List.cons_append]
  have hlength : (encode i).length = (op :: operands).length := by
    rw [hcount, List.length_cons, hlen, Nat.add_comm]; rfl
  exact ⟨i, (List.append_inj hbytes hlength).1, hmn, hmd⟩

/-- Settles O56: the bytes are an encoding, which the decoder reads back, and its operand bytes are those emitted for the
value of the term. -/
theorem assembledInstructionsDecode : Obligations.AssembledInstructionsDecode := by
  intro sym addr mn md operand bs h
  obtain ⟨op, v, operands, hop, hv, hoperands, rfl⟩ := eq_cons_of_instrBytes h
  obtain ⟨i, henc, hmn, hmd⟩ := exists_encode_of_opcodeOf hop (length_of_operandBytes hoperands)
  obtain rfl : i.operand.bytes = operands := (List.cons.inj henc).2
  refine ⟨i, v, ?decodes, hmn, hmd, ?value, hoperands, fun h0 => ?nothing, fun h1 hrel => ?byte, fun h2 => ?word,
    fun hrel => ?offset⟩
  case decodes => rw [← henc, ← List.append_nil (encode i), decode_encode]
  case value =>
    rintro t rfl
    exact hv
  case nothing =>
    rw [operandBytes_of_noOperand h0] at hoperands
    exact (Except.ok.inj hoperands).symm
  case byte =>
    rw [operandBytes_of_byteOperand h1 hrel] at hoperands
    exact eq_singleton_of_byteOf hoperands
  case word =>
    rw [operandBytes_of_wordOperand h2] at hoperands
    exact (Except.ok.inj hoperands).symm.trans (wordOf_eq v)
  case offset =>
    rw [hrel] at hoperands
    exact eq_singleton_of_branchByte hoperands

/-! ### Branches -/

/-- The processor adds the offset back to the address of the next instruction (rules R137, R288). -/
theorem branchTarget_ofInt_offset {addr v : Nat} (hlo : (-128 : Int) ≤ (v : Int) - (addr + 2))
    (hhi : (v : Int) - (addr + 2) ≤ 127) {s : State} (hpc : s.pc = BitVec.ofNat 16 (addr + 2)) :
    branchTarget (BitVec.ofInt 8 ((v : Int) - (addr + 2))) s = BitVec.ofNat 16 v := by
  have htarget := branchTarget_toNat (BitVec.ofInt 8 ((v : Int) - (addr + 2))) s
  rw [toInt_ofInt_of_inRange hlo hhi, hpc, BitVec.toNat_ofNat] at htarget
  apply BitVec.eq_of_toNat_eq
  rw [BitVec.toNat_ofNat]
  omega

/-- Settles O57: a branch is emitted exactly as its offset byte is. -/
theorem assembledBranchesReachTheirTarget : Obligations.AssembledBranchesReachTheirTarget := by
  intro sym addr v mn t hmode hv
  obtain ⟨op, hop⟩ := Option.isSome_iff_exists.mp (hasMode_iff_opcodeOf.mp hmode)
  have hbytes : instrBytes sym addr mn .relative (some t) = (branchByte addr v).map (op :: ·) :=
    instrBytes_of_value hop hv
  refine ⟨fun hlo hhi => ?inRange, fun hout => ?outOfRange⟩
  case inRange =>
    rw [branchByte_of_inRange hlo hhi] at hbytes
    exact ⟨op, _, hop, hbytes, fun s => branchTarget_ofInt_offset hlo hhi⟩
  case outOfRange =>
    rw [branchByte_of_outOfRange hout] at hbytes
    exact hbytes

/-! ### The scenarios -/

/-- Settles O60, by running the assembler on each source. -/
theorem scenariosAssemble : Obligations.ScenariosAssemble := ⟨by decide, by decide⟩

end Sys2Proof.Machine

/-! SUPPORT. Where a step executes nothing: the opcode byte has no descriptor, or the engine no longer runs. -/

namespace Sys2Proof.Machine

open Sys2Proof.Claims

/-! ### A byte with no descriptor -/

/-- Without a descriptor the fetch ends at the opcode byte (rule R322). -/
theorem fetchInstr_of_no_descriptor {s t : State} {op : Byte} (hb : fetchByte s = some (op, t))
    (hd : descriptor op = none) : fetchInstr s = .invalidOpcode (t.raiseInvalidOpcode s.pc op) := by
  simp only [fetchInstr, hb, hd]

/-- A byte fetched outside the IO regions leaves everything but PC. -/
theorem eq_of_fetchByte_store {s t : State} {v : Byte} (hp : s.policy s.pc ≠ .io) (h : fetchByte s = some (v, t)) :
    t = { s with pc := s.pc + 1 } := by
  rw [fetchByte_store hp] at h
  cases h
  rfl

/-- Settles O7: the fetch raises `InvalidOpcode`, and all that changed before that is what one byte fetched changes. -/
theorem invalidOpcodeFaultsTheEngine : Obligations.InvalidOpcodeFaultsTheEngine := fun _ _ _ hs hb hd =>
  ⟨step_invalidOpcode hs (fetchInstr_of_no_descriptor hb hd), fetchByte_pc hb, fun hp => eq_of_fetchByte_store hp hb⟩

/-! ### Terminal states -/

/-- Settles O8, for each of the two terminal engine states. -/
theorem terminalStatesDoNotStep : Obligations.TerminalStatesDoNotStep := by
  intro s hs
  cases he : s.engine with
  | running => exact absurd he hs
  | halted => simp only [step, he]
  | faulted cause addr byte => simp only [step, he]

end Sys2Proof.Machine
